-- ==== Sys2Proof/Word.lean ====
section
/-! DEFINITION. The two word types of the spec: a byte and a 16-bit address (spec/00_scope.md R6, R7). -/

namespace Sys2Proof

/-- A byte: bit 0 is the least significant bit, bit 7 the most significant (R6). -/
abbrev Byte := BitVec 8

/-- An address of the consumer's memory, 16 bits wide (R5 `OPERAND_ADDRESS_WIDTH`, R7). -/
abbrev Addr := BitVec 16

end Sys2Proof
end

