-- ==== Sys2Proof/Config.lean ====
section
/-! DEFINITION. The implementation parameters of the block (spec/00_scope.md R5). Those with more than one
possible value are inductive types; the one the spec leaves OPEN has a type here and its value in State. -/

namespace Sys2Proof

/-- `CONSTRUCTION_POLICY` (R5, R231). The lazy policy is not admitted as a variant of the model (R235, D5). -/
inductive ConstructionPolicy where
  | eager
  | lazy
  deriving DecidableEq, Repr

/-- `DEFECT_POLICY` (R5, D9): what is done with the three defects of the reference data. -/
inductive DefectPolicy where
  | fix
  | preserve
  deriving DecidableEq, Repr

/-- `ISA_REVISION` (R5, D6). Only one revision is a value of this block (D22). -/
inductive IsaRevision where
  | officialNmos6502
  deriving DecidableEq, Repr

/-- `UNDEFINED_OPCODE_POLICY` (R5, R209, D11), OPEN: what the CONSUMER does when `Lookup` answers absent. The
three constructors are the three policies R209 lists as typical. -/
inductive UndefinedOpcodePolicy where
  /-- "halt" -/
  | halt
  /-- "raise an illegal-instruction fault": the policy the spec advises -/
  | fault
  /-- "treat as a documented unofficial opcode alias, which is explicitly out of this core's scope" -/
  | unofficialAlias
  deriving DecidableEq, Repr

namespace Config

/-- `OPCODE_WIDTH`: keys are bytes, 0 to 255. -/
def opcodeWidth : Nat := 8

/-- `N_KEYS`: each of the 256 byte values maps to at most one record. -/
def nKeys : Nat := 256

/-- `N_MODES`: the closed enumeration of tags. -/
def nModes : Nat := 10

/-- `LENGTH_RANGE`, both ends included. -/
def lengthRange : Nat × Nat := (1, 3)

/-- `OPERAND_LENGTH_RANGE`, both ends included. -/
def operandLengthRange : Nat × Nat := (0, 2)

/-- `ZERO_PAGE_SIZE`: "the first 256 addresses". -/
def zeroPageSize : Nat := 256

/-- `OPERAND_ADDRESS_WIDTH`. -/
def operandAddressWidth : Nat := 16

/-- `ISA_REVISION`. -/
def isaRevision : IsaRevision := .officialNmos6502

/-- `N_LEGAL`: rows present. -/
def nLegal : Nat := 151

/-- `N_ABSENT`: keys absent. -/
def nAbsent : Nat := 105

/-- `N_MNEMONICS`. -/
def nMnemonics : Nat := 56

/-- `LENGTH_PORT_WIDTH`. -/
def lengthPortWidth : Nat := 2

/-- `MODE_PORT_WIDTH`. -/
def modePortWidth : Nat := 4

/-- `CONSTRUCTION_POLICY`: the table is a constant of the design. -/
def constructionPolicy : ConstructionPolicy := .eager

/-- `DEFECT_POLICY`: the canonical mapping. -/
def defectPolicy : DefectPolicy := .fix

end Config

end Sys2Proof
end

