-- ==== Sys2Proof/Syntax.lean ====
section
/-! DEFINITION. What the spec names as data: the ten mode tags (R50), the thirteen conventional modes (R71), the
56 mnemonics, the 151 instructions of spec/opcode_table.json (one constructor a row), the decode record (R57), the
raw entry handed to `Construct` (R200), the ports (R21), and what the decoder and the assembler handle. -/

namespace Sys2Proof

/-- The addressing-mode tags: a closed set of ten, without fields (R50). -/
inductive Mode where
  | immediate
  | zeroPage
  | zeroPageX
  | zeroPageY
  | absolute
  | absoluteX
  | absoluteY
  | indirectX
  | indirectY
  | implied
  deriving DecidableEq, Repr

/-- The names the 6502 literature gives the operand forms (R71, R78): the ten tags with implied and accumulator
told apart, plus relative and indirect. A label of a row, never an output of the block. -/
inductive ConventionalMode where
  | implied
  | accumulator
  | immediate
  | zeroPage
  | zeroPageX
  | zeroPageY
  | absolute
  | absoluteX
  | absoluteY
  | indirectX
  | indirectY
  | relative
  | indirect
  deriving DecidableEq, Repr

/-- The 56 mnemonics: labels of rows, not outputs of the block (R57, D15). -/
inductive Mnemonic where
  | adc | and | asl | bcc | bcs | beq | bit | bmi | bne | bpl | brk | bvc | bvs | clc
  | cld | cli | clv | cmp | cpx | cpy | dec | dex | dey | eor | inc | inx | iny | jmp
  | jsr | lda | ldx | ldy | lsr | nop | ora | pha | php | pla | plp | rol | ror | rti
  | rts | sbc | sec | sed | sei | sta | stx | sty | tax | tay | tsx | txa | txs | tya
  deriving DecidableEq, Repr

/-- The instructions: one constructor per row of spec/opcode_table.json, with the operand the record says follows
the opcode byte (R58, R59): `b1` is the one operand byte of format F2, `addr` the two-byte operand `b2:b1` of
format F3. Every operand is as wide as its field, so no term of this type is ill-formed. -/
inductive Instr where
  -- Loads and stores (spec/40_load_store.md)
  /-- `LDA ($nn,X)`, opcode 0xA1 (R101) -/
  | ldaIndX (b1 : Byte)
  /-- `LDA $nn`, opcode 0xA5 (R101) -/
  | ldaZp (b1 : Byte)
  /-- `LDA #$nn`, opcode 0xA9 (R101) -/
  | ldaImm (b1 : Byte)
  /-- `LDA $nnnn`, opcode 0xAD (R101) -/
  | ldaAbs (addr : Addr)
  /-- `LDA ($nn),Y`, opcode 0xB1 (R101) -/
  | ldaIndY (b1 : Byte)
  /-- `LDA $nn,X`, opcode 0xB5 (R101) -/
  | ldaZpX (b1 : Byte)
  /-- `LDA $nnnn,Y`, opcode 0xB9 (R101) -/
  | ldaAbsY (addr : Addr)
  /-- `LDA $nnnn,X`, opcode 0xBD (R101) -/
  | ldaAbsX (addr : Addr)
  /-- `LDX #$nn`, opcode 0xA2 (R102) -/
  | ldxImm (b1 : Byte)
  /-- `LDX $nn`, opcode 0xA6 (R102) -/
  | ldxZp (b1 : Byte)
  /-- `LDX $nnnn`, opcode 0xAE (R102) -/
  | ldxAbs (addr : Addr)
  /-- `LDX $nn,Y`, opcode 0xB6 (R102) -/
  | ldxZpY (b1 : Byte)
  /-- `LDX $nnnn,Y`, opcode 0xBE (R102) -/
  | ldxAbsY (addr : Addr)
  /-- `LDY #$nn`, opcode 0xA0 (R103) -/
  | ldyImm (b1 : Byte)
  /-- `LDY $nn`, opcode 0xA4 (R103) -/
  | ldyZp (b1 : Byte)
  /-- `LDY $nnnn`, opcode 0xAC (R103) -/
  | ldyAbs (addr : Addr)
  /-- `LDY $nn,X`, opcode 0xB4 (R103) -/
  | ldyZpX (b1 : Byte)
  /-- `LDY $nnnn,X`, opcode 0xBC (R103) -/
  | ldyAbsX (addr : Addr)
  /-- `STA ($nn,X)`, opcode 0x81 (R104) -/
  | staIndX (b1 : Byte)
  /-- `STA $nn`, opcode 0x85 (R104) -/
  | staZp (b1 : Byte)
  /-- `STA $nnnn`, opcode 0x8D (R104) -/
  | staAbs (addr : Addr)
  /-- `STA ($nn),Y`, opcode 0x91 (R104) -/
  | staIndY (b1 : Byte)
  /-- `STA $nn,X`, opcode 0x95 (R104) -/
  | staZpX (b1 : Byte)
  /-- `STA $nnnn,Y`, opcode 0x99 (R104) -/
  | staAbsY (addr : Addr)
  /-- `STA $nnnn,X`, opcode 0x9D (R104) -/
  | staAbsX (addr : Addr)
  /-- `STX $nn`, opcode 0x86 (R105) -/
  | stxZp (b1 : Byte)
  /-- `STX $nnnn`, opcode 0x8E (R105) -/
  | stxAbs (addr : Addr)
  /-- `STX $nn,Y`, opcode 0x96 (R105) -/
  | stxZpY (b1 : Byte)
  /-- `STY $nn`, opcode 0x84 (R106) -/
  | styZp (b1 : Byte)
  /-- `STY $nnnn`, opcode 0x8C (R106) -/
  | styAbs (addr : Addr)
  /-- `STY $nn,X`, opcode 0x94 (R106) -/
  | styZpX (b1 : Byte)
  -- Register transfers and stack (spec/41_transfer_stack.md)
  /-- `TAX`, opcode 0xAA (R111) -/
  | tax
  /-- `TAY`, opcode 0xA8 (R112) -/
  | tay
  /-- `TSX`, opcode 0xBA (R113) -/
  | tsx
  /-- `TXA`, opcode 0x8A (R114) -/
  | txa
  /-- `TXS`, opcode 0x9A (R115) -/
  | txs
  /-- `TYA`, opcode 0x98 (R116) -/
  | tya
  /-- `PHA`, opcode 0x48 (R117) -/
  | pha
  /-- `PHP`, opcode 0x08 (R118) -/
  | php
  /-- `PLA`, opcode 0x68 (R119) -/
  | pla
  /-- `PLP`, opcode 0x28 (R120) -/
  | plp
  -- Logic, arithmetic, compare (spec/42_logic_arith.md)
  /-- `AND ($nn,X)`, opcode 0x21 (R126) -/
  | andIndX (b1 : Byte)
  /-- `AND $nn`, opcode 0x25 (R126) -/
  | andZp (b1 : Byte)
  /-- `AND #$nn`, opcode 0x29 (R126) -/
  | andImm (b1 : Byte)
  /-- `AND $nnnn`, opcode 0x2D (R126) -/
  | andAbs (addr : Addr)
  /-- `AND ($nn),Y`, opcode 0x31 (R126) -/
  | andIndY (b1 : Byte)
  /-- `AND $nn,X`, opcode 0x35 (R126) -/
  | andZpX (b1 : Byte)
  /-- `AND $nnnn,Y`, opcode 0x39 (R126) -/
  | andAbsY (addr : Addr)
  /-- `AND $nnnn,X`, opcode 0x3D (R126) -/
  | andAbsX (addr : Addr)
  /-- `EOR ($nn,X)`, opcode 0x41 (R127) -/
  | eorIndX (b1 : Byte)
  /-- `EOR $nn`, opcode 0x45 (R127) -/
  | eorZp (b1 : Byte)
  /-- `EOR #$nn`, opcode 0x49 (R127) -/
  | eorImm (b1 : Byte)
  /-- `EOR $nnnn`, opcode 0x4D (R127) -/
  | eorAbs (addr : Addr)
  /-- `EOR ($nn),Y`, opcode 0x51 (R127) -/
  | eorIndY (b1 : Byte)
  /-- `EOR $nn,X`, opcode 0x55 (R127) -/
  | eorZpX (b1 : Byte)
  /-- `EOR $nnnn,Y`, opcode 0x59 (R127) -/
  | eorAbsY (addr : Addr)
  /-- `EOR $nnnn,X`, opcode 0x5D (R127) -/
  | eorAbsX (addr : Addr)
  /-- `ORA ($nn,X)`, opcode 0x01 (R128) -/
  | oraIndX (b1 : Byte)
  /-- `ORA $nn`, opcode 0x05 (R128) -/
  | oraZp (b1 : Byte)
  /-- `ORA #$nn`, opcode 0x09 (R128) -/
  | oraImm (b1 : Byte)
  /-- `ORA $nnnn`, opcode 0x0D (R128) -/
  | oraAbs (addr : Addr)
  /-- `ORA ($nn),Y`, opcode 0x11 (R128) -/
  | oraIndY (b1 : Byte)
  /-- `ORA $nn,X`, opcode 0x15 (R128) -/
  | oraZpX (b1 : Byte)
  /-- `ORA $nnnn,Y`, opcode 0x19 (R128) -/
  | oraAbsY (addr : Addr)
  /-- `ORA $nnnn,X`, opcode 0x1D (R128) -/
  | oraAbsX (addr : Addr)
  /-- `BIT $nn`, opcode 0x24 (R129) -/
  | bitZp (b1 : Byte)
  /-- `BIT $nnnn`, opcode 0x2C (R129) -/
  | bitAbs (addr : Addr)
  /-- `ADC ($nn,X)`, opcode 0x61 (R130) -/
  | adcIndX (b1 : Byte)
  /-- `ADC $nn`, opcode 0x65 (R130) -/
  | adcZp (b1 : Byte)
  /-- `ADC #$nn`, opcode 0x69 (R130) -/
  | adcImm (b1 : Byte)
  /-- `ADC $nnnn`, opcode 0x6D (R130) -/
  | adcAbs (addr : Addr)
  /-- `ADC ($nn),Y`, opcode 0x71 (R130) -/
  | adcIndY (b1 : Byte)
  /-- `ADC $nn,X`, opcode 0x75 (R130) -/
  | adcZpX (b1 : Byte)
  /-- `ADC $nnnn,Y`, opcode 0x79 (R130) -/
  | adcAbsY (addr : Addr)
  /-- `ADC $nnnn,X`, opcode 0x7D (R130) -/
  | adcAbsX (addr : Addr)
  /-- `SBC ($nn,X)`, opcode 0xE1 (R131) -/
  | sbcIndX (b1 : Byte)
  /-- `SBC $nn`, opcode 0xE5 (R131) -/
  | sbcZp (b1 : Byte)
  /-- `SBC #$nn`, opcode 0xE9 (R131) -/
  | sbcImm (b1 : Byte)
  /-- `SBC $nnnn`, opcode 0xED (R131) -/
  | sbcAbs (addr : Addr)
  /-- `SBC ($nn),Y`, opcode 0xF1 (R131) -/
  | sbcIndY (b1 : Byte)
  /-- `SBC $nn,X`, opcode 0xF5 (R131) -/
  | sbcZpX (b1 : Byte)
  /-- `SBC $nnnn,Y`, opcode 0xF9 (R131) -/
  | sbcAbsY (addr : Addr)
  /-- `SBC $nnnn,X`, opcode 0xFD (R131) -/
  | sbcAbsX (addr : Addr)
  /-- `CMP ($nn,X)`, opcode 0xC1 (R132) -/
  | cmpIndX (b1 : Byte)
  /-- `CMP $nn`, opcode 0xC5 (R132) -/
  | cmpZp (b1 : Byte)
  /-- `CMP #$nn`, opcode 0xC9 (R132) -/
  | cmpImm (b1 : Byte)
  /-- `CMP $nnnn`, opcode 0xCD (R132) -/
  | cmpAbs (addr : Addr)
  /-- `CMP ($nn),Y`, opcode 0xD1 (R132) -/
  | cmpIndY (b1 : Byte)
  /-- `CMP $nn,X`, opcode 0xD5 (R132) -/
  | cmpZpX (b1 : Byte)
  /-- `CMP $nnnn,Y`, opcode 0xD9 (R132) -/
  | cmpAbsY (addr : Addr)
  /-- `CMP $nnnn,X`, opcode 0xDD (R132) -/
  | cmpAbsX (addr : Addr)
  /-- `CPX #$nn`, opcode 0xE0 (R133) -/
  | cpxImm (b1 : Byte)
  /-- `CPX $nn`, opcode 0xE4 (R133) -/
  | cpxZp (b1 : Byte)
  /-- `CPX $nnnn`, opcode 0xEC (R133) -/
  | cpxAbs (addr : Addr)
  /-- `CPY #$nn`, opcode 0xC0 (R134) -/
  | cpyImm (b1 : Byte)
  /-- `CPY $nn`, opcode 0xC4 (R134) -/
  | cpyZp (b1 : Byte)
  /-- `CPY $nnnn`, opcode 0xCC (R134) -/
  | cpyAbs (addr : Addr)
  -- Increments, decrements, shifts, rotates (spec/43_incdec_shift.md)
  /-- `INC $nn`, opcode 0xE6 (R141) -/
  | incZp (b1 : Byte)
  /-- `INC $nnnn`, opcode 0xEE (R141) -/
  | incAbs (addr : Addr)
  /-- `INC $nn,X`, opcode 0xF6 (R141) -/
  | incZpX (b1 : Byte)
  /-- `INC $nnnn,X`, opcode 0xFE (R141) -/
  | incAbsX (addr : Addr)
  /-- `INX`, opcode 0xE8 (R142) -/
  | inx
  /-- `INY`, opcode 0xC8 (R143) -/
  | iny
  /-- `DEC $nn`, opcode 0xC6 (R144) -/
  | decZp (b1 : Byte)
  /-- `DEC $nnnn`, opcode 0xCE (R144) -/
  | decAbs (addr : Addr)
  /-- `DEC $nn,X`, opcode 0xD6 (R144) -/
  | decZpX (b1 : Byte)
  /-- `DEC $nnnn,X`, opcode 0xDE (R144) -/
  | decAbsX (addr : Addr)
  /-- `DEX`, opcode 0xCA (R145) -/
  | dex
  /-- `DEY`, opcode 0x88 (R146) -/
  | dey
  /-- `ASL $nn`, opcode 0x06 (R147) -/
  | aslZp (b1 : Byte)
  /-- `ASL A`, opcode 0x0A (R147) -/
  | aslAcc
  /-- `ASL $nnnn`, opcode 0x0E (R147) -/
  | aslAbs (addr : Addr)
  /-- `ASL $nn,X`, opcode 0x16 (R147) -/
  | aslZpX (b1 : Byte)
  /-- `ASL $nnnn,X`, opcode 0x1E (R147) -/
  | aslAbsX (addr : Addr)
  /-- `LSR $nn`, opcode 0x46 (R148) -/
  | lsrZp (b1 : Byte)
  /-- `LSR A`, opcode 0x4A (R148) -/
  | lsrAcc
  /-- `LSR $nnnn`, opcode 0x4E (R148) -/
  | lsrAbs (addr : Addr)
  /-- `LSR $nn,X`, opcode 0x56 (R148) -/
  | lsrZpX (b1 : Byte)
  /-- `LSR $nnnn,X`, opcode 0x5E (R148) -/
  | lsrAbsX (addr : Addr)
  /-- `ROL $nn`, opcode 0x26 (R149) -/
  | rolZp (b1 : Byte)
  /-- `ROL A`, opcode 0x2A (R149) -/
  | rolAcc
  /-- `ROL $nnnn`, opcode 0x2E (R149) -/
  | rolAbs (addr : Addr)
  /-- `ROL $nn,X`, opcode 0x36 (R149) -/
  | rolZpX (b1 : Byte)
  /-- `ROL $nnnn,X`, opcode 0x3E (R149) -/
  | rolAbsX (addr : Addr)
  /-- `ROR $nn`, opcode 0x66 (R150) -/
  | rorZp (b1 : Byte)
  /-- `ROR A`, opcode 0x6A (R150) -/
  | rorAcc
  /-- `ROR $nnnn`, opcode 0x6E (R150) -/
  | rorAbs (addr : Addr)
  /-- `ROR $nn,X`, opcode 0x76 (R150) -/
  | rorZpX (b1 : Byte)
  /-- `ROR $nnnn,X`, opcode 0x7E (R150) -/
  | rorAbsX (addr : Addr)
  -- Control flow (spec/44_control_flow.md)
  /-- `JMP $nnnn`, opcode 0x4C (R156) -/
  | jmpAbs (addr : Addr)
  /-- `JMP ($nnnn)`, opcode 0x6C (R156) -/
  | jmpInd (addr : Addr)
  /-- `JSR $nnnn`, opcode 0x20 (R157) -/
  | jsr (addr : Addr)
  /-- `RTS`, opcode 0x60 (R158) -/
  | rts
  /-- `RTI`, opcode 0x40 (R159) -/
  | rti
  /-- `BRK`, opcode 0x00 (R160) -/
  | brk
  /-- `BCC label`, opcode 0x90 (R161) -/
  | bcc (b1 : Byte)
  /-- `BCS label`, opcode 0xB0 (R162) -/
  | bcs (b1 : Byte)
  /-- `BEQ label`, opcode 0xF0 (R163) -/
  | beq (b1 : Byte)
  /-- `BMI label`, opcode 0x30 (R164) -/
  | bmi (b1 : Byte)
  /-- `BNE label`, opcode 0xD0 (R165) -/
  | bne (b1 : Byte)
  /-- `BPL label`, opcode 0x10 (R166) -/
  | bpl (b1 : Byte)
  /-- `BVC label`, opcode 0x50 (R167) -/
  | bvc (b1 : Byte)
  /-- `BVS label`, opcode 0x70 (R168) -/
  | bvs (b1 : Byte)
  -- Flags and NOP (spec/45_flags_nop.md)
  /-- `CLC`, opcode 0x18 (R176) -/
  | clc
  /-- `CLD`, opcode 0xD8 (R177) -/
  | cld
  /-- `CLI`, opcode 0x58 (R178) -/
  | cli
  /-- `CLV`, opcode 0xB8 (R179) -/
  | clv
  /-- `SEC`, opcode 0x38 (R180) -/
  | sec
  /-- `SED`, opcode 0xF8 (R181) -/
  | sed
  /-- `SEI`, opcode 0x78 (R182) -/
  | sei
  /-- `NOP`, opcode 0xEA (R183) -/
  | nop
  deriving DecidableEq, Repr

/-- A decode record `(opcode, length, mode)` (R57). Only `opcode` and `mode` are stored; `length` is computed
from the mode (`DecodeRecord.length`), so that a record whose length disagrees with its mode cannot be written
(R58: "either store only `mode` and define `length` from it"). -/
structure DecodeRecord where
  opcode : Byte
  mode : Mode
  deriving DecidableEq, Repr

/-- The finished table: its records in ascending opcode order, no key twice; a key it does not list is absent.
One form for one mapping, so that equal tables are equal lists (R10, R200). -/
abbrev Table := List DecodeRecord

/-- An entry handed to `Construct`: raw data, with a length that may be wrong (R200, C5). -/
structure Entry where
  op : Byte
  len : Nat
  mode : Mode
  deriving DecidableEq, Repr

/-- The diagnostic reasons of the one failure signal (R207, D10). -/
inductive MalformedReason where
  /-- second entry with the same key (R201) -/
  | duplicateOpcode
  /-- `len != 1 + operand_length(mode)` (R202) -/
  | lengthModeMismatch
  deriving DecidableEq, Repr

/-- The block's only failure: construction did not complete, and there is no table (R203, R207). Raised by
`construct` alone, never by a step. -/
structure MalformedTable where
  reason : MalformedReason
  op : Byte
  deriving DecidableEq, Repr

/-- The output ports (R21). -/
structure Ports where
  valid : BitVec 1
  length : BitVec 2
  mode : BitVec 4
  opcodeOut : Byte
  deriving DecidableEq, Repr

/-- One row of the published table: the record's data with the labels printed beside it (R70, R71). -/
structure RomRow where
  op : Byte
  mnemonic : Mnemonic
  conventional : ConventionalMode
  mode : Mode
  len : Nat
  deriving DecidableEq, Repr

/-- The three instruction formats (R58), each with the instruction it builds from its operand bytes. -/
inductive Form where
  | f1 (i : Instr)
  | f2 (mk : Byte → Instr)
  | f3 (mk : Addr → Instr)

/-- Why a byte sequence holds no instruction at its head. -/
inductive DecodeError where
  /-- there is no byte -/
  | empty
  /-- the opcode byte has no record (R72) -/
  | absent (op : Byte)
  /-- the record asks for more operand bytes than follow -/
  | truncated (op : Byte)
  deriving DecidableEq, Repr

/-- An assembler operand: one constructor per line of the table of R78. -/
inductive OperandForm where
  | implied
  | accumulator
  | immediate (nn : Byte)
  | zeroPage (nn : Byte)
  | zeroPageX (nn : Byte)
  | zeroPageY (nn : Byte)
  | absolute (nnnn : Addr)
  | absoluteX (nnnn : Addr)
  | absoluteY (nnnn : Addr)
  | indirectX (nn : Byte)
  | indirectY (nn : Byte)
  | relative (label : Addr)
  | indirect (nnnn : Addr)
  deriving DecidableEq, Repr

end Sys2Proof
end

