-- ==== Sys2Proof/Decode.lean ====
section
/-! DEFINITION. The mode catalogue's functions, construction of a table, the contents of `decode_rom_6502`, `Lookup`,
the decoder from bytes to instructions, and after it the encoder (spec/30_encoding.md, spec/60_exceptions.md). -/

namespace Sys2Proof

/-! ### The mode catalogue -/

/-- `operand_length` (R52): the operand bytes a tag consumes. -/
def operandLength : Mode → Nat
  | .immediate => 1
  | .zeroPage => 1
  | .zeroPageX => 1
  | .zeroPageY => 1
  | .absolute => 2
  | .absoluteX => 2
  | .absoluteY => 2
  | .indirectX => 1
  | .indirectY => 1
  | .implied => 0

/-- The ten tags in the order the source lists them (R53). -/
def allModes : List Mode :=
  [.immediate, .zeroPage, .zeroPageX, .zeroPageY, .absolute, .absoluteX, .absoluteY, .indirectX, .indirectY,
    .implied]

/-- The code of a tag on the `mode` port (R53, D2). -/
def Mode.code : Mode → BitVec 4
  | .immediate => 0
  | .zeroPage => 1
  | .zeroPageX => 2
  | .zeroPageY => 3
  | .absolute => 4
  | .absoluteX => 5
  | .absoluteY => 6
  | .indirectX => 7
  | .indirectY => 8
  | .implied => 9

/-- The tag a code stands for. Codes 10 to 14 are never driven and are refused (D21); 15 is not a mode (R53). -/
def Mode.ofCode (c : BitVec 4) : Option Mode :=
  allModes.find? fun m => m.code == c

/-! ### The record -/

/-- `length = 1 + operand_length(mode)` (R58), the only sum the block computes (R77). -/
def DecodeRecord.length (r : DecodeRecord) : Nat :=
  1 + operandLength r.mode

/-- The record an entry stands for: stored under the entry's own `op` (R60, R200). -/
def Entry.record (e : Entry) : DecodeRecord :=
  ⟨e.op, e.mode⟩

/-! ### Byte order -/

/-- `b2:b1`: the first operand byte is the low byte of the address (R33). -/
def addrOf (b1 b2 : Byte) : Addr :=
  b2 ++ b1

/-- The byte of a two-byte operand that lies first in the stream (R33, R59). -/
def lowByte (a : Addr) : Byte :=
  a.setWidth 8

/-- The byte of a two-byte operand that lies second in the stream (R33, R59). -/
def highByte (a : Addr) : Byte :=
  (a >>> 8).setWidth 8

/-! ### Construction of a table (spec/60_exceptions.md R200 to R204, R210)

It is done when the design is elaborated (R231); no step of the machine does it. -/

/-- `ROM[k]` for a table: the whole entry, a record or absent (R30). -/
def Table.get (T : Table) (k : Byte) : Option DecodeRecord :=
  T.find? fun r => r.opcode == k

/-- Stores a record in a table, at the place its key has in ascending order. -/
def Table.insert (r : DecodeRecord) : Table → Table
  | [] => [r]
  | q :: T => if r.opcode.toNat < q.opcode.toNat then r :: q :: T else q :: Table.insert r T

/-- One turn of the loop of R200: the length check first, then the duplicate check (R210), then the store. -/
def constructStep (T : Table) (e : Entry) : Except MalformedTable Table :=
  if e.len ≠ 1 + operandLength e.mode then .error ⟨.lengthModeMismatch, e.op⟩
  else
    match Table.get T e.op with
    | some _ => .error ⟨.duplicateOpcode, e.op⟩
    | none => .ok (Table.insert e.record T)

/-- The loop of R200, in list order; the first entry that fails a check ends it (R210). -/
def constructFrom (T : Table) : List Entry → Except MalformedTable Table
  | [] => .ok T
  | e :: es =>
    match constructStep T e with
    | .ok T' => constructFrom T' es
    | .error err => .error err

/-- `Construct` (R200): starts from the table with all 256 keys absent. -/
def construct (entries : List Entry) : Except MalformedTable Table :=
  constructFrom [] entries

/-- A table from the SUCCESSFUL result of construction, and from nothing else (R203): whoever names a table `T` of
`entries` hands in that `construct entries` answered `.ok T`. The argument is a proof, so naming the table runs nothing. -/
def tableOf (entries : List Entry) (T : Table) (_ : construct entries = .ok T) : Table :=
  T

/-! ### The contents of `decode_rom_6502` (R70), in ascending opcode order (R204, D19) -/

/-- Row `0x` of the map of R70, with the labels of R71. -/
def romRows0 : List RomRow :=
  [⟨0x00#8, .brk, .implied, .implied, 1⟩,
    ⟨0x01#8, .ora, .indirectX, .indirectX, 2⟩,
    ⟨0x05#8, .ora, .zeroPage, .zeroPage, 2⟩,
    ⟨0x06#8, .asl, .zeroPage, .zeroPage, 2⟩,
    ⟨0x08#8, .php, .implied, .implied, 1⟩,
    ⟨0x09#8, .ora, .immediate, .immediate, 2⟩,
    ⟨0x0A#8, .asl, .accumulator, .implied, 1⟩,
    ⟨0x0D#8, .ora, .absolute, .absolute, 3⟩,
    ⟨0x0E#8, .asl, .absolute, .absolute, 3⟩]

/-- Row `1x` of the map of R70, with the labels of R71. -/
def romRows1 : List RomRow :=
  [⟨0x10#8, .bpl, .relative, .immediate, 2⟩,
    ⟨0x11#8, .ora, .indirectY, .indirectY, 2⟩,
    ⟨0x15#8, .ora, .zeroPageX, .zeroPageX, 2⟩,
    ⟨0x16#8, .asl, .zeroPageX, .zeroPageX, 2⟩,
    ⟨0x18#8, .clc, .implied, .implied, 1⟩,
    ⟨0x19#8, .ora, .absoluteY, .absoluteY, 3⟩,
    ⟨0x1D#8, .ora, .absoluteX, .absoluteX, 3⟩,
    ⟨0x1E#8, .asl, .absoluteX, .absoluteX, 3⟩]

/-- Row `2x` of the map of R70, with the labels of R71. -/
def romRows2 : List RomRow :=
  [⟨0x20#8, .jsr, .absolute, .absolute, 3⟩,
    ⟨0x21#8, .and, .indirectX, .indirectX, 2⟩,
    ⟨0x24#8, .bit, .zeroPage, .zeroPage, 2⟩,
    ⟨0x25#8, .and, .zeroPage, .zeroPage, 2⟩,
    ⟨0x26#8, .rol, .zeroPage, .zeroPage, 2⟩,
    ⟨0x28#8, .plp, .implied, .implied, 1⟩,
    ⟨0x29#8, .and, .immediate, .immediate, 2⟩,
    ⟨0x2A#8, .rol, .accumulator, .implied, 1⟩,
    ⟨0x2C#8, .bit, .absolute, .absolute, 3⟩,
    ⟨0x2D#8, .and, .absolute, .absolute, 3⟩,
    ⟨0x2E#8, .rol, .absolute, .absolute, 3⟩]

/-- Row `3x` of the map of R70, with the labels of R71. -/
def romRows3 : List RomRow :=
  [⟨0x30#8, .bmi, .relative, .immediate, 2⟩,
    ⟨0x31#8, .and, .indirectY, .indirectY, 2⟩,
    ⟨0x35#8, .and, .zeroPageX, .zeroPageX, 2⟩,
    ⟨0x36#8, .rol, .zeroPageX, .zeroPageX, 2⟩,
    ⟨0x38#8, .sec, .implied, .implied, 1⟩,
    ⟨0x39#8, .and, .absoluteY, .absoluteY, 3⟩,
    ⟨0x3D#8, .and, .absoluteX, .absoluteX, 3⟩,
    ⟨0x3E#8, .rol, .absoluteX, .absoluteX, 3⟩]

/-- Row `4x` of the map of R70, with the labels of R71. -/
def romRows4 : List RomRow :=
  [⟨0x40#8, .rti, .implied, .implied, 1⟩,
    ⟨0x41#8, .eor, .indirectX, .indirectX, 2⟩,
    ⟨0x45#8, .eor, .zeroPage, .zeroPage, 2⟩,
    ⟨0x46#8, .lsr, .zeroPage, .zeroPage, 2⟩,
    ⟨0x48#8, .pha, .implied, .implied, 1⟩,
    ⟨0x49#8, .eor, .immediate, .immediate, 2⟩,
    ⟨0x4A#8, .lsr, .accumulator, .implied, 1⟩,
    ⟨0x4C#8, .jmp, .absolute, .absolute, 3⟩,
    ⟨0x4D#8, .eor, .absolute, .absolute, 3⟩,
    ⟨0x4E#8, .lsr, .absolute, .absolute, 3⟩]

/-- Row `5x` of the map of R70, with the labels of R71. -/
def romRows5 : List RomRow :=
  [⟨0x50#8, .bvc, .relative, .immediate, 2⟩,
    ⟨0x51#8, .eor, .indirectY, .indirectY, 2⟩,
    ⟨0x55#8, .eor, .zeroPageX, .zeroPageX, 2⟩,
    ⟨0x56#8, .lsr, .zeroPageX, .zeroPageX, 2⟩,
    ⟨0x58#8, .cli, .implied, .implied, 1⟩,
    ⟨0x59#8, .eor, .absoluteY, .absoluteY, 3⟩,
    ⟨0x5D#8, .eor, .absoluteX, .absoluteX, 3⟩,
    ⟨0x5E#8, .lsr, .absoluteX, .absoluteX, 3⟩]

/-- Row `6x` of the map of R70, with the labels of R71. -/
def romRows6 : List RomRow :=
  [⟨0x60#8, .rts, .implied, .implied, 1⟩,
    ⟨0x61#8, .adc, .indirectX, .indirectX, 2⟩,
    ⟨0x65#8, .adc, .zeroPage, .zeroPage, 2⟩,
    ⟨0x66#8, .ror, .zeroPage, .zeroPage, 2⟩,
    ⟨0x68#8, .pla, .implied, .implied, 1⟩,
    ⟨0x69#8, .adc, .immediate, .immediate, 2⟩,
    ⟨0x6A#8, .ror, .accumulator, .implied, 1⟩,
    ⟨0x6C#8, .jmp, .indirect, .absolute, 3⟩,
    ⟨0x6D#8, .adc, .absolute, .absolute, 3⟩,
    ⟨0x6E#8, .ror, .absolute, .absolute, 3⟩]

/-- Row `7x` of the map of R70, with the labels of R71. -/
def romRows7 : List RomRow :=
  [⟨0x70#8, .bvs, .relative, .immediate, 2⟩,
    ⟨0x71#8, .adc, .indirectY, .indirectY, 2⟩,
    ⟨0x75#8, .adc, .zeroPageX, .zeroPageX, 2⟩,
    ⟨0x76#8, .ror, .zeroPageX, .zeroPageX, 2⟩,
    ⟨0x78#8, .sei, .implied, .implied, 1⟩,
    ⟨0x79#8, .adc, .absoluteY, .absoluteY, 3⟩,
    ⟨0x7D#8, .adc, .absoluteX, .absoluteX, 3⟩,
    ⟨0x7E#8, .ror, .absoluteX, .absoluteX, 3⟩]

/-- Row `8x` of the map of R70, with the labels of R71. -/
def romRows8 : List RomRow :=
  [⟨0x81#8, .sta, .indirectX, .indirectX, 2⟩,
    ⟨0x84#8, .sty, .zeroPage, .zeroPage, 2⟩,
    ⟨0x85#8, .sta, .zeroPage, .zeroPage, 2⟩,
    ⟨0x86#8, .stx, .zeroPage, .zeroPage, 2⟩,
    ⟨0x88#8, .dey, .implied, .implied, 1⟩,
    ⟨0x8A#8, .txa, .implied, .implied, 1⟩,
    ⟨0x8C#8, .sty, .absolute, .absolute, 3⟩,
    ⟨0x8D#8, .sta, .absolute, .absolute, 3⟩,
    ⟨0x8E#8, .stx, .absolute, .absolute, 3⟩]

/-- Row `9x` of the map of R70, with the labels of R71. -/
def romRows9 : List RomRow :=
  [⟨0x90#8, .bcc, .relative, .immediate, 2⟩,
    ⟨0x91#8, .sta, .indirectY, .indirectY, 2⟩,
    ⟨0x94#8, .sty, .zeroPageX, .zeroPageX, 2⟩,
    ⟨0x95#8, .sta, .zeroPageX, .zeroPageX, 2⟩,
    ⟨0x96#8, .stx, .zeroPageY, .zeroPageY, 2⟩,
    ⟨0x98#8, .tya, .implied, .implied, 1⟩,
    ⟨0x99#8, .sta, .absoluteY, .absoluteY, 3⟩,
    ⟨0x9A#8, .txs, .implied, .implied, 1⟩,
    ⟨0x9D#8, .sta, .absoluteX, .absoluteX, 3⟩]

/-- Row `Ax` of the map of R70, with the labels of R71. -/
def romRowsA : List RomRow :=
  [⟨0xA0#8, .ldy, .immediate, .immediate, 2⟩,
    ⟨0xA1#8, .lda, .indirectX, .indirectX, 2⟩,
    ⟨0xA2#8, .ldx, .immediate, .immediate, 2⟩,
    ⟨0xA4#8, .ldy, .zeroPage, .zeroPage, 2⟩,
    ⟨0xA5#8, .lda, .zeroPage, .zeroPage, 2⟩,
    ⟨0xA6#8, .ldx, .zeroPage, .zeroPage, 2⟩,
    ⟨0xA8#8, .tay, .implied, .implied, 1⟩,
    ⟨0xA9#8, .lda, .immediate, .immediate, 2⟩,
    ⟨0xAA#8, .tax, .implied, .implied, 1⟩,
    ⟨0xAC#8, .ldy, .absolute, .absolute, 3⟩,
    ⟨0xAD#8, .lda, .absolute, .absolute, 3⟩,
    ⟨0xAE#8, .ldx, .absolute, .absolute, 3⟩]

/-- Row `Bx` of the map of R70, with the labels of R71. -/
def romRowsB : List RomRow :=
  [⟨0xB0#8, .bcs, .relative, .immediate, 2⟩,
    ⟨0xB1#8, .lda, .indirectY, .indirectY, 2⟩,
    ⟨0xB4#8, .ldy, .zeroPageX, .zeroPageX, 2⟩,
    ⟨0xB5#8, .lda, .zeroPageX, .zeroPageX, 2⟩,
    ⟨0xB6#8, .ldx, .zeroPageY, .zeroPageY, 2⟩,
    ⟨0xB8#8, .clv, .implied, .implied, 1⟩,
    ⟨0xB9#8, .lda, .absoluteY, .absoluteY, 3⟩,
    ⟨0xBA#8, .tsx, .implied, .implied, 1⟩,
    ⟨0xBC#8, .ldy, .absoluteX, .absoluteX, 3⟩,
    ⟨0xBD#8, .lda, .absoluteX, .absoluteX, 3⟩,
    ⟨0xBE#8, .ldx, .absoluteY, .absoluteY, 3⟩]

/-- Row `Cx` of the map of R70, with the labels of R71. -/
def romRowsC : List RomRow :=
  [⟨0xC0#8, .cpy, .immediate, .immediate, 2⟩,
    ⟨0xC1#8, .cmp, .indirectX, .indirectX, 2⟩,
    ⟨0xC4#8, .cpy, .zeroPage, .zeroPage, 2⟩,
    ⟨0xC5#8, .cmp, .zeroPage, .zeroPage, 2⟩,
    ⟨0xC6#8, .dec, .zeroPage, .zeroPage, 2⟩,
    ⟨0xC8#8, .iny, .implied, .implied, 1⟩,
    ⟨0xC9#8, .cmp, .immediate, .immediate, 2⟩,
    ⟨0xCA#8, .dex, .implied, .implied, 1⟩,
    ⟨0xCC#8, .cpy, .absolute, .absolute, 3⟩,
    ⟨0xCD#8, .cmp, .absolute, .absolute, 3⟩,
    ⟨0xCE#8, .dec, .absolute, .absolute, 3⟩]

/-- Row `Dx` of the map of R70, with the labels of R71. -/
def romRowsD : List RomRow :=
  [⟨0xD0#8, .bne, .relative, .immediate, 2⟩,
    ⟨0xD1#8, .cmp, .indirectY, .indirectY, 2⟩,
    ⟨0xD5#8, .cmp, .zeroPageX, .zeroPageX, 2⟩,
    ⟨0xD6#8, .dec, .zeroPageX, .zeroPageX, 2⟩,
    ⟨0xD8#8, .cld, .implied, .implied, 1⟩,
    ⟨0xD9#8, .cmp, .absoluteY, .absoluteY, 3⟩,
    ⟨0xDD#8, .cmp, .absoluteX, .absoluteX, 3⟩,
    ⟨0xDE#8, .dec, .absoluteX, .absoluteX, 3⟩]

/-- Row `Ex` of the map of R70, with the labels of R71. -/
def romRowsE : List RomRow :=
  [⟨0xE0#8, .cpx, .immediate, .immediate, 2⟩,
    ⟨0xE1#8, .sbc, .indirectX, .indirectX, 2⟩,
    ⟨0xE4#8, .cpx, .zeroPage, .zeroPage, 2⟩,
    ⟨0xE5#8, .sbc, .zeroPage, .zeroPage, 2⟩,
    ⟨0xE6#8, .inc, .zeroPage, .zeroPage, 2⟩,
    ⟨0xE8#8, .inx, .implied, .implied, 1⟩,
    ⟨0xE9#8, .sbc, .immediate, .immediate, 2⟩,
    ⟨0xEA#8, .nop, .implied, .implied, 1⟩,
    ⟨0xEC#8, .cpx, .absolute, .absolute, 3⟩,
    ⟨0xED#8, .sbc, .absolute, .absolute, 3⟩,
    ⟨0xEE#8, .inc, .absolute, .absolute, 3⟩]

/-- Row `Fx` of the map of R70, with the labels of R71. -/
def romRowsF : List RomRow :=
  [⟨0xF0#8, .beq, .relative, .immediate, 2⟩,
    ⟨0xF1#8, .sbc, .indirectY, .indirectY, 2⟩,
    ⟨0xF5#8, .sbc, .zeroPageX, .zeroPageX, 2⟩,
    ⟨0xF6#8, .inc, .zeroPageX, .zeroPageX, 2⟩,
    ⟨0xF8#8, .sed, .implied, .implied, 1⟩,
    ⟨0xF9#8, .sbc, .absoluteY, .absoluteY, 3⟩,
    ⟨0xFD#8, .sbc, .absoluteX, .absoluteX, 3⟩,
    ⟨0xFE#8, .inc, .absoluteX, .absoluteX, 3⟩]

/-- The 151 rows of the published table. -/
def romRows : List RomRow :=
  [romRows0, romRows1, romRows2, romRows3, romRows4, romRows5, romRows6, romRows7,
    romRows8, romRows9, romRowsA, romRowsB, romRowsC, romRowsD, romRowsE, romRowsF].flatten

/-- What `Construct` is given of a row (R204). -/
def RomRow.entry (r : RomRow) : Entry :=
  ⟨r.op, r.len, r.mode⟩

/-- `CANON` (R204): the 151 rows as entries, in ascending opcode order. -/
def canon : List Entry :=
  romRows.map RomRow.entry

/-- The design's own construction, run by Lean's kernel when this file is compiled (R204, R231). With a malformed `canon`
this line fails and nothing after it exists: "the design does not build" (R203). -/
theorem construct_canon : construct canon = .ok (canon.map Entry.record) := by decide +kernel

/-- `decode_rom_6502 = Construct(CANON)` (R204), a constant of the design, defined only from the successful result (R203,
R231). -/
def decodeRom6502 : Table :=
  tableOf canon (canon.map Entry.record) construct_canon

/-- `Lookup` (R61): the block's one operation, total and pure. `none` is the outcome `absent`. -/
def lookup (op : Byte) : Option DecodeRecord :=
  Table.get decodeRom6502 op

/-- The row printed for an opcode: the mnemonic and conventional mode are labels for the reader (R57, R71). -/
def rowOf (op : Byte) : Option RomRow :=
  romRows.find? fun r => r.op == op

/-! ### The decoder: from bytes to instructions

The whole opcode byte is matched, no sub-field of it is used (R74); a byte without a record is refused (R72). -/

/-- The instructions of row `0x` of the map, by opcode. -/
def forms0 : List (Byte × Form) :=
  [(0x00#8, .f1 .brk),
    (0x01#8, .f2 .oraIndX),
    (0x05#8, .f2 .oraZp),
    (0x06#8, .f2 .aslZp),
    (0x08#8, .f1 .php),
    (0x09#8, .f2 .oraImm),
    (0x0A#8, .f1 .aslAcc),
    (0x0D#8, .f3 .oraAbs),
    (0x0E#8, .f3 .aslAbs)]

/-- The instructions of row `1x` of the map, by opcode. -/
def forms1 : List (Byte × Form) :=
  [(0x10#8, .f2 .bpl),
    (0x11#8, .f2 .oraIndY),
    (0x15#8, .f2 .oraZpX),
    (0x16#8, .f2 .aslZpX),
    (0x18#8, .f1 .clc),
    (0x19#8, .f3 .oraAbsY),
    (0x1D#8, .f3 .oraAbsX),
    (0x1E#8, .f3 .aslAbsX)]

/-- The instructions of row `2x` of the map, by opcode. -/
def forms2 : List (Byte × Form) :=
  [(0x20#8, .f3 .jsr),
    (0x21#8, .f2 .andIndX),
    (0x24#8, .f2 .bitZp),
    (0x25#8, .f2 .andZp),
    (0x26#8, .f2 .rolZp),
    (0x28#8, .f1 .plp),
    (0x29#8, .f2 .andImm),
    (0x2A#8, .f1 .rolAcc),
    (0x2C#8, .f3 .bitAbs),
    (0x2D#8, .f3 .andAbs),
    (0x2E#8, .f3 .rolAbs)]

/-- The instructions of row `3x` of the map, by opcode. -/
def forms3 : List (Byte × Form) :=
  [(0x30#8, .f2 .bmi),
    (0x31#8, .f2 .andIndY),
    (0x35#8, .f2 .andZpX),
    (0x36#8, .f2 .rolZpX),
    (0x38#8, .f1 .sec),
    (0x39#8, .f3 .andAbsY),
    (0x3D#8, .f3 .andAbsX),
    (0x3E#8, .f3 .rolAbsX)]

/-- The instructions of row `4x` of the map, by opcode. -/
def forms4 : List (Byte × Form) :=
  [(0x40#8, .f1 .rti),
    (0x41#8, .f2 .eorIndX),
    (0x45#8, .f2 .eorZp),
    (0x46#8, .f2 .lsrZp),
    (0x48#8, .f1 .pha),
    (0x49#8, .f2 .eorImm),
    (0x4A#8, .f1 .lsrAcc),
    (0x4C#8, .f3 .jmpAbs),
    (0x4D#8, .f3 .eorAbs),
    (0x4E#8, .f3 .lsrAbs)]

/-- The instructions of row `5x` of the map, by opcode. -/
def forms5 : List (Byte × Form) :=
  [(0x50#8, .f2 .bvc),
    (0x51#8, .f2 .eorIndY),
    (0x55#8, .f2 .eorZpX),
    (0x56#8, .f2 .lsrZpX),
    (0x58#8, .f1 .cli),
    (0x59#8, .f3 .eorAbsY),
    (0x5D#8, .f3 .eorAbsX),
    (0x5E#8, .f3 .lsrAbsX)]

/-- The instructions of row `6x` of the map, by opcode. -/
def forms6 : List (Byte × Form) :=
  [(0x60#8, .f1 .rts),
    (0x61#8, .f2 .adcIndX),
    (0x65#8, .f2 .adcZp),
    (0x66#8, .f2 .rorZp),
    (0x68#8, .f1 .pla),
    (0x69#8, .f2 .adcImm),
    (0x6A#8, .f1 .rorAcc),
    (0x6C#8, .f3 .jmpInd),
    (0x6D#8, .f3 .adcAbs),
    (0x6E#8, .f3 .rorAbs)]

/-- The instructions of row `7x` of the map, by opcode. -/
def forms7 : List (Byte × Form) :=
  [(0x70#8, .f2 .bvs),
    (0x71#8, .f2 .adcIndY),
    (0x75#8, .f2 .adcZpX),
    (0x76#8, .f2 .rorZpX),
    (0x78#8, .f1 .sei),
    (0x79#8, .f3 .adcAbsY),
    (0x7D#8, .f3 .adcAbsX),
    (0x7E#8, .f3 .rorAbsX)]

/-- The instructions of row `8x` of the map, by opcode. -/
def forms8 : List (Byte × Form) :=
  [(0x81#8, .f2 .staIndX),
    (0x84#8, .f2 .styZp),
    (0x85#8, .f2 .staZp),
    (0x86#8, .f2 .stxZp),
    (0x88#8, .f1 .dey),
    (0x8A#8, .f1 .txa),
    (0x8C#8, .f3 .styAbs),
    (0x8D#8, .f3 .staAbs),
    (0x8E#8, .f3 .stxAbs)]

/-- The instructions of row `9x` of the map, by opcode. -/
def forms9 : List (Byte × Form) :=
  [(0x90#8, .f2 .bcc),
    (0x91#8, .f2 .staIndY),
    (0x94#8, .f2 .styZpX),
    (0x95#8, .f2 .staZpX),
    (0x96#8, .f2 .stxZpY),
    (0x98#8, .f1 .tya),
    (0x99#8, .f3 .staAbsY),
    (0x9A#8, .f1 .txs),
    (0x9D#8, .f3 .staAbsX)]

/-- The instructions of row `Ax` of the map, by opcode. -/
def formsA : List (Byte × Form) :=
  [(0xA0#8, .f2 .ldyImm),
    (0xA1#8, .f2 .ldaIndX),
    (0xA2#8, .f2 .ldxImm),
    (0xA4#8, .f2 .ldyZp),
    (0xA5#8, .f2 .ldaZp),
    (0xA6#8, .f2 .ldxZp),
    (0xA8#8, .f1 .tay),
    (0xA9#8, .f2 .ldaImm),
    (0xAA#8, .f1 .tax),
    (0xAC#8, .f3 .ldyAbs),
    (0xAD#8, .f3 .ldaAbs),
    (0xAE#8, .f3 .ldxAbs)]

/-- The instructions of row `Bx` of the map, by opcode. -/
def formsB : List (Byte × Form) :=
  [(0xB0#8, .f2 .bcs),
    (0xB1#8, .f2 .ldaIndY),
    (0xB4#8, .f2 .ldyZpX),
    (0xB5#8, .f2 .ldaZpX),
    (0xB6#8, .f2 .ldxZpY),
    (0xB8#8, .f1 .clv),
    (0xB9#8, .f3 .ldaAbsY),
    (0xBA#8, .f1 .tsx),
    (0xBC#8, .f3 .ldyAbsX),
    (0xBD#8, .f3 .ldaAbsX),
    (0xBE#8, .f3 .ldxAbsY)]

/-- The instructions of row `Cx` of the map, by opcode. -/
def formsC : List (Byte × Form) :=
  [(0xC0#8, .f2 .cpyImm),
    (0xC1#8, .f2 .cmpIndX),
    (0xC4#8, .f2 .cpyZp),
    (0xC5#8, .f2 .cmpZp),
    (0xC6#8, .f2 .decZp),
    (0xC8#8, .f1 .iny),
    (0xC9#8, .f2 .cmpImm),
    (0xCA#8, .f1 .dex),
    (0xCC#8, .f3 .cpyAbs),
    (0xCD#8, .f3 .cmpAbs),
    (0xCE#8, .f3 .decAbs)]

/-- The instructions of row `Dx` of the map, by opcode. -/
def formsD : List (Byte × Form) :=
  [(0xD0#8, .f2 .bne),
    (0xD1#8, .f2 .cmpIndY),
    (0xD5#8, .f2 .cmpZpX),
    (0xD6#8, .f2 .decZpX),
    (0xD8#8, .f1 .cld),
    (0xD9#8, .f3 .cmpAbsY),
    (0xDD#8, .f3 .cmpAbsX),
    (0xDE#8, .f3 .decAbsX)]

/-- The instructions of row `Ex` of the map, by opcode. -/
def formsE : List (Byte × Form) :=
  [(0xE0#8, .f2 .cpxImm),
    (0xE1#8, .f2 .sbcIndX),
    (0xE4#8, .f2 .cpxZp),
    (0xE5#8, .f2 .sbcZp),
    (0xE6#8, .f2 .incZp),
    (0xE8#8, .f1 .inx),
    (0xE9#8, .f2 .sbcImm),
    (0xEA#8, .f1 .nop),
    (0xEC#8, .f3 .cpxAbs),
    (0xED#8, .f3 .sbcAbs),
    (0xEE#8, .f3 .incAbs)]

/-- The instructions of row `Fx` of the map, by opcode. -/
def formsF : List (Byte × Form) :=
  [(0xF0#8, .f2 .beq),
    (0xF1#8, .f2 .sbcIndY),
    (0xF5#8, .f2 .sbcZpX),
    (0xF6#8, .f2 .incZpX),
    (0xF8#8, .f1 .sed),
    (0xF9#8, .f3 .sbcAbsY),
    (0xFD#8, .f3 .sbcAbsX),
    (0xFE#8, .f3 .incAbsX)]

/-- Every legal opcode with the instruction it begins. -/
def forms : List (Byte × Form) :=
  [forms0, forms1, forms2, forms3, forms4, forms5, forms6, forms7,
    forms8, forms9, formsA, formsB, formsC, formsD, formsE, formsF].flatten

/-- The instruction an opcode begins, if it is legal. -/
def formOf (op : Byte) : Option Form :=
  (forms.find? fun p => p.1 == op).map Prod.snd

/-- Takes from the bytes after the opcode what the format needs (R58, R59), and answers what is left. -/
def Form.build (op : Byte) : Form → List Byte → Except DecodeError (Instr × List Byte)
  | .f1 i, rest => .ok (i, rest)
  | .f2 mk, b1 :: rest => .ok (mk b1, rest)
  | .f3 mk, b1 :: b2 :: rest => .ok (mk (addrOf b1 b2), rest)
  | .f2 _, [] => .error (.truncated op)
  | .f3 _, [] => .error (.truncated op)
  | .f3 _, [_] => .error (.truncated op)

/-- Decodes the instruction at the head of a byte sequence, and answers it with the bytes that follow it. Total:
every sequence is decoded or refused by name. -/
def decode : List Byte → Except DecodeError (Instr × List Byte)
  | [] => .error .empty
  | op :: rest =>
    match formOf op with
    | some f => f.build op rest
    | none => .error (.absent op)

/-- Byte `k` of a number whose bit 0 is the least significant bit of the first byte. -/
def byteOf (w k : Nat) : Byte :=
  BitVec.ofNat 8 (w >>> (8 * k))

/-- The longest instruction (three bytes, R58) laid out as the stream holds it, from a word of `nbits` bits. -/
def tableBytes (nbits w : Nat) : List Byte :=
  let v := w % 2 ^ nbits
  [byteOf v 0, byteOf v 1, byteOf v 2]

/-- The instruction the decoder reads from a word numbered as spec/opcode_table.json numbers it. -/
def decodeTableWord (nbits w : Nat) : Option Instr :=
  match decode (tableBytes nbits w) with
  | .ok (i, _) => some i
  | .error _ => none

/-! ### The encoder -/

/-- The bytes of an instruction in stream order (R34, R59): the opcode, then the operand, low byte first (R33). -/
def encode : Instr → List Byte
  | .ldaIndX b1 => [0xA1#8, b1]
  | .ldaZp b1 => [0xA5#8, b1]
  | .ldaImm b1 => [0xA9#8, b1]
  | .ldaAbs addr => [0xAD#8, lowByte addr, highByte addr]
  | .ldaIndY b1 => [0xB1#8, b1]
  | .ldaZpX b1 => [0xB5#8, b1]
  | .ldaAbsY addr => [0xB9#8, lowByte addr, highByte addr]
  | .ldaAbsX addr => [0xBD#8, lowByte addr, highByte addr]
  | .ldxImm b1 => [0xA2#8, b1]
  | .ldxZp b1 => [0xA6#8, b1]
  | .ldxAbs addr => [0xAE#8, lowByte addr, highByte addr]
  | .ldxZpY b1 => [0xB6#8, b1]
  | .ldxAbsY addr => [0xBE#8, lowByte addr, highByte addr]
  | .ldyImm b1 => [0xA0#8, b1]
  | .ldyZp b1 => [0xA4#8, b1]
  | .ldyAbs addr => [0xAC#8, lowByte addr, highByte addr]
  | .ldyZpX b1 => [0xB4#8, b1]
  | .ldyAbsX addr => [0xBC#8, lowByte addr, highByte addr]
  | .staIndX b1 => [0x81#8, b1]
  | .staZp b1 => [0x85#8, b1]
  | .staAbs addr => [0x8D#8, lowByte addr, highByte addr]
  | .staIndY b1 => [0x91#8, b1]
  | .staZpX b1 => [0x95#8, b1]
  | .staAbsY addr => [0x99#8, lowByte addr, highByte addr]
  | .staAbsX addr => [0x9D#8, lowByte addr, highByte addr]
  | .stxZp b1 => [0x86#8, b1]
  | .stxAbs addr => [0x8E#8, lowByte addr, highByte addr]
  | .stxZpY b1 => [0x96#8, b1]
  | .styZp b1 => [0x84#8, b1]
  | .styAbs addr => [0x8C#8, lowByte addr, highByte addr]
  | .styZpX b1 => [0x94#8, b1]
  | .tax => [0xAA#8]
  | .tay => [0xA8#8]
  | .tsx => [0xBA#8]
  | .txa => [0x8A#8]
  | .txs => [0x9A#8]
  | .tya => [0x98#8]
  | .pha => [0x48#8]
  | .php => [0x08#8]
  | .pla => [0x68#8]
  | .plp => [0x28#8]
  | .andIndX b1 => [0x21#8, b1]
  | .andZp b1 => [0x25#8, b1]
  | .andImm b1 => [0x29#8, b1]
  | .andAbs addr => [0x2D#8, lowByte addr, highByte addr]
  | .andIndY b1 => [0x31#8, b1]
  | .andZpX b1 => [0x35#8, b1]
  | .andAbsY addr => [0x39#8, lowByte addr, highByte addr]
  | .andAbsX addr => [0x3D#8, lowByte addr, highByte addr]
  | .eorIndX b1 => [0x41#8, b1]
  | .eorZp b1 => [0x45#8, b1]
  | .eorImm b1 => [0x49#8, b1]
  | .eorAbs addr => [0x4D#8, lowByte addr, highByte addr]
  | .eorIndY b1 => [0x51#8, b1]
  | .eorZpX b1 => [0x55#8, b1]
  | .eorAbsY addr => [0x59#8, lowByte addr, highByte addr]
  | .eorAbsX addr => [0x5D#8, lowByte addr, highByte addr]
  | .oraIndX b1 => [0x01#8, b1]
  | .oraZp b1 => [0x05#8, b1]
  | .oraImm b1 => [0x09#8, b1]
  | .oraAbs addr => [0x0D#8, lowByte addr, highByte addr]
  | .oraIndY b1 => [0x11#8, b1]
  | .oraZpX b1 => [0x15#8, b1]
  | .oraAbsY addr => [0x19#8, lowByte addr, highByte addr]
  | .oraAbsX addr => [0x1D#8, lowByte addr, highByte addr]
  | .bitZp b1 => [0x24#8, b1]
  | .bitAbs addr => [0x2C#8, lowByte addr, highByte addr]
  | .adcIndX b1 => [0x61#8, b1]
  | .adcZp b1 => [0x65#8, b1]
  | .adcImm b1 => [0x69#8, b1]
  | .adcAbs addr => [0x6D#8, lowByte addr, highByte addr]
  | .adcIndY b1 => [0x71#8, b1]
  | .adcZpX b1 => [0x75#8, b1]
  | .adcAbsY addr => [0x79#8, lowByte addr, highByte addr]
  | .adcAbsX addr => [0x7D#8, lowByte addr, highByte addr]
  | .sbcIndX b1 => [0xE1#8, b1]
  | .sbcZp b1 => [0xE5#8, b1]
  | .sbcImm b1 => [0xE9#8, b1]
  | .sbcAbs addr => [0xED#8, lowByte addr, highByte addr]
  | .sbcIndY b1 => [0xF1#8, b1]
  | .sbcZpX b1 => [0xF5#8, b1]
  | .sbcAbsY addr => [0xF9#8, lowByte addr, highByte addr]
  | .sbcAbsX addr => [0xFD#8, lowByte addr, highByte addr]
  | .cmpIndX b1 => [0xC1#8, b1]
  | .cmpZp b1 => [0xC5#8, b1]
  | .cmpImm b1 => [0xC9#8, b1]
  | .cmpAbs addr => [0xCD#8, lowByte addr, highByte addr]
  | .cmpIndY b1 => [0xD1#8, b1]
  | .cmpZpX b1 => [0xD5#8, b1]
  | .cmpAbsY addr => [0xD9#8, lowByte addr, highByte addr]
  | .cmpAbsX addr => [0xDD#8, lowByte addr, highByte addr]
  | .cpxImm b1 => [0xE0#8, b1]
  | .cpxZp b1 => [0xE4#8, b1]
  | .cpxAbs addr => [0xEC#8, lowByte addr, highByte addr]
  | .cpyImm b1 => [0xC0#8, b1]
  | .cpyZp b1 => [0xC4#8, b1]
  | .cpyAbs addr => [0xCC#8, lowByte addr, highByte addr]
  | .incZp b1 => [0xE6#8, b1]
  | .incAbs addr => [0xEE#8, lowByte addr, highByte addr]
  | .incZpX b1 => [0xF6#8, b1]
  | .incAbsX addr => [0xFE#8, lowByte addr, highByte addr]
  | .inx => [0xE8#8]
  | .iny => [0xC8#8]
  | .decZp b1 => [0xC6#8, b1]
  | .decAbs addr => [0xCE#8, lowByte addr, highByte addr]
  | .decZpX b1 => [0xD6#8, b1]
  | .decAbsX addr => [0xDE#8, lowByte addr, highByte addr]
  | .dex => [0xCA#8]
  | .dey => [0x88#8]
  | .aslZp b1 => [0x06#8, b1]
  | .aslAcc => [0x0A#8]
  | .aslAbs addr => [0x0E#8, lowByte addr, highByte addr]
  | .aslZpX b1 => [0x16#8, b1]
  | .aslAbsX addr => [0x1E#8, lowByte addr, highByte addr]
  | .lsrZp b1 => [0x46#8, b1]
  | .lsrAcc => [0x4A#8]
  | .lsrAbs addr => [0x4E#8, lowByte addr, highByte addr]
  | .lsrZpX b1 => [0x56#8, b1]
  | .lsrAbsX addr => [0x5E#8, lowByte addr, highByte addr]
  | .rolZp b1 => [0x26#8, b1]
  | .rolAcc => [0x2A#8]
  | .rolAbs addr => [0x2E#8, lowByte addr, highByte addr]
  | .rolZpX b1 => [0x36#8, b1]
  | .rolAbsX addr => [0x3E#8, lowByte addr, highByte addr]
  | .rorZp b1 => [0x66#8, b1]
  | .rorAcc => [0x6A#8]
  | .rorAbs addr => [0x6E#8, lowByte addr, highByte addr]
  | .rorZpX b1 => [0x76#8, b1]
  | .rorAbsX addr => [0x7E#8, lowByte addr, highByte addr]
  | .jmpAbs addr => [0x4C#8, lowByte addr, highByte addr]
  | .jmpInd addr => [0x6C#8, lowByte addr, highByte addr]
  | .jsr addr => [0x20#8, lowByte addr, highByte addr]
  | .rts => [0x60#8]
  | .rti => [0x40#8]
  | .brk => [0x00#8]
  | .bcc b1 => [0x90#8, b1]
  | .bcs b1 => [0xB0#8, b1]
  | .beq b1 => [0xF0#8, b1]
  | .bmi b1 => [0x30#8, b1]
  | .bne b1 => [0xD0#8, b1]
  | .bpl b1 => [0x10#8, b1]
  | .bvc b1 => [0x50#8, b1]
  | .bvs b1 => [0x70#8, b1]
  | .clc => [0x18#8]
  | .cld => [0xD8#8]
  | .cli => [0x58#8]
  | .clv => [0xB8#8]
  | .sec => [0x38#8]
  | .sed => [0xF8#8]
  | .sei => [0x78#8]
  | .nop => [0xEA#8]

/-- The opcode byte of an instruction: byte 0 of its encoding (R59). -/
def Instr.opcode (i : Instr) : Byte :=
  (encode i).headD 0#8

/-- The operand bytes of an instruction: the bytes after the opcode (R8, R59). -/
def Instr.operandBytes (i : Instr) : List Byte :=
  (encode i).tail

end Sys2Proof
end

