-- ==== Sys2Proof/Machine/State.lean ====
section
/-! DEFINITION. The state of one consumer beside the block, as plain data, its value at reset, and the reasons a
step can stop. The block itself holds one constant, `decodeRom6502` (R10), which is a definition and no field. -/

namespace Sys2Proof.Machine

/-- The consumer's memory (R19, R37): address and byte, in one canonical form (`Memory.wf`). -/
abbrev Memory := List Host.Cell

/-- The consumer's flags, which R13 names and to which it gives no layout in a byte (log 21). -/
structure Flags where
  n : Bool
  v : Bool
  b : Bool
  d : Bool
  i : Bool
  z : Bool
  c : Bool
  deriving DecidableEq, Repr

/-- What the mode tag and the operand bytes resolve to (R62 to R69). -/
inductive Operand where
  /-- no record has been received, so nothing is resolved (reset, or after an absent opcode) -/
  | unresolved
  /-- no operand byte (R69) -/
  | implied
  /-- the operand is the byte itself, found at `location` (R62) -/
  | immediate (value : Byte) (location : Addr)
  /-- the operand has the effective address `ea` (R63 to R68) -/
  | memory (ea : Addr)
  deriving DecidableEq, Repr

/-- Where control may go after the instruction, beside `NextIP`: the facts R155 to R168 and R65 give of the
control-transfer opcodes. Which way it goes is execution and not in the model (R4, log 1). -/
inductive Transfer where
  /-- none: the next instruction is at `NextIP` -/
  | sequential
  /-- the two operand bytes are the target (R65, R156) -/
  | jump (target : Addr)
  /-- the two operand bytes are the address of a pointer to the target (R65, R156) -/
  | jumpIndirect (pointer target : Addr)
  /-- the two operand bytes are the target, and `pushed` is the address that is saved (R157) -/
  | call (target pushed : Addr)
  /-- the signed displacement's target and the successor of a branch not taken (R161 to R168) -/
  | branch (taken notTaken : Addr)
  /-- the software break, with the address it saves (R160, R239) -/
  | softwareBreak (pushed : Addr)
  /-- control comes from the stack and does not continue at `NextIP` (R158, R159) -/
  | fromStack
  deriving DecidableEq, Repr

/-- Why a step stops with a fault. -/
inductive Fault where
  /-- Raised by `undefinedOpcode`, under the policy `fault`, for an opcode whose `Lookup` is absent: the
  consumer's illegal-instruction fault (R209). The block itself raises nothing (R206). Safe: nothing is guessed. -/
  | undefinedOpcode (op : Byte)
  deriving DecidableEq, Repr

/-- Why a step has no meaning. -/
inductive Refusal where
  /-- Raised by an arm of `exec` without a meaning; no arm is left without one. Safe. -/
  | notModelled (mnemonic : String)
  /-- Raised by `undefinedOpcode`, under the policy `unofficialAlias`: what an unofficial opcode would do is
  "explicitly out of this core's scope" (R209, U3). Safe: the machine stops. -/
  | unofficialOpcode (op : Byte)
  deriving DecidableEq, Repr

/-- One consumer, with the input port of the block it holds. The output ports are a function of `opcodeIn` (R22)
and are therefore not stored: `State.ports`. -/
structure State where
  /-- the byte on the input port `opcode_in` (R21) -/
  opcodeIn : Byte
  /-- the record the consumer received in its last transaction, none if it was absent (R234) -/
  received : Option DecodeRecord
  /-- the operand resolved in the last transaction (R234) -/
  operand : Operand
  /-- what is known of the control flow of the last instruction decoded -/
  transfer : Transfer
  /-- the consumer's instruction pointer (R14) -/
  ip : Addr
  /-- accumulator A (R13) -/
  a : Byte
  /-- index register X (R12) -/
  x : Byte
  /-- index register Y (R12) -/
  y : Byte
  /-- stack pointer S (R13) -/
  sp : Byte
  /-- status register P (R13) -/
  p : Flags
  /-- the consumer's memory (R19) -/
  mem : Memory
  /-- the parameter `UNDEFINED_OPCODE_POLICY` (R5, R209) -/
  policy : UndefinedOpcodePolicy
  deriving DecidableEq, Repr

/-- The outcome of an instruction or a step. -/
abbrev Result := Host.Outcome State Fault Refusal

/-- The machine after reset. The spec gives the consumer no reset values (R23, N12): every one here is a DESIGN
CHOICE of logs 3 to 6. A reset changes nothing in the block (R230). -/
def State.reset : State where
  opcodeIn := 0x00#8
  received := none
  operand := .unresolved
  transfer := .sequential
  ip := 0x0000#16
  a := 0x00#8
  x := 0x00#8
  y := 0x00#8
  sp := 0x00#8
  p := { n := false, v := false, b := false, d := false, i := false, z := false, c := false }
  mem := []
  policy := .fault

end Sys2Proof.Machine
end

