-- ==== Sys2Proof/Machine/Flags.lean ====
section
/-! DEFINITION. Flags. The block has none (R16), and every instruction's rule says "Flags written: none by the
block": the one flag operation is to keep them. -/

namespace Sys2Proof.Machine

/-- The consumer's flags after any decode transaction (R16, R100, R110, R125, R140, R155, R175). -/
def keepFlags (p : Flags) : Flags :=
  p

end Sys2Proof.Machine
end

