-- ==== Sys2Proof/Machine/Memory.lean ====
section
/-! DEFINITION. The consumer's memory: 65536 bytes (R19), all of them present (R37, R42), no alignment (R35). -/

namespace Sys2Proof.Machine

/-- What an address that is not listed reads as. DESIGN CHOICE (log 5): 0x00, "what an erased or zero-filled memory
holds" (R160). -/
def unlisted : Byte := 0x00#8

/-- Addresses strictly rising from `lo` and below 65536, and no entry equal to what an unlisted address reads as. -/
def Memory.wfFrom (lo : Nat) : Memory → Bool
  | [] => true
  | (k, v) :: m => decide (lo ≤ k) && decide (k < 65536) && decide (v ≠ unlisted) && Memory.wfFrom (k + 1) m

/-- The canonical form of a memory. -/
def Memory.wf (m : Memory) : Bool :=
  Memory.wfFrom 0 m

/-- The byte at a numbered address. -/
def Memory.readAt : Memory → Nat → Byte
  | [], _ => unlisted
  | (k, v) :: m, n => if k = n then v else Memory.readAt m n

/-- `MemRead(addr, 1)` (R7). -/
def Memory.read (m : Memory) (a : Addr) : Byte :=
  Memory.readAt m a.toNat

/-- Puts a byte before the entries of `m`, unless it is what an unlisted address reads as. -/
def Memory.cons (n : Nat) (v : Byte) (m : Memory) : Memory :=
  if v = unlisted then m else (n, v) :: m

/-- Writes a byte at a numbered address, keeping the canonical form. -/
def Memory.writeAt (n : Nat) (v : Byte) : Memory → Memory
  | [] => Memory.cons n v []
  | (k, w) :: m =>
    if n < k then Memory.cons n v ((k, w) :: m)
    else if n = k then Memory.cons n v m
    else (k, w) :: Memory.writeAt n v m

/-- `MemWrite(addr, 1, v)` (R7). No rule of the spec uses it; a program is placed in memory with it (log 9). -/
def Memory.write (m : Memory) (a : Addr) (v : Byte) : Memory :=
  Memory.writeAt a.toNat v m

/-- The `n` bytes at consecutive addresses from `a`, taken mod 65536 (R34, R59). -/
def Memory.readBytes (m : Memory) (a : Addr) : Nat → List Byte
  | 0 => []
  | n + 1 => m.read a :: Memory.readBytes m (a + 1) n

/-- Writes bytes at consecutive addresses from `a`, taken mod 65536. -/
def Memory.writeBytes (m : Memory) (a : Addr) : List Byte → Memory
  | [] => m
  | b :: bs => Memory.writeBytes (m.write a b) (a + 1) bs

/-- A two-byte pointer whose low byte is at `lo` and whose high byte is at `hi` (R33). -/
def Memory.readPointer (m : Memory) (lo hi : Addr) : Addr :=
  addrOf (m.read lo) (m.read hi)

/-- `MemRead(addr, 2)`: the byte at `addr` is the low byte (R7, R33). R7 gives the second address no modulus; DESIGN CHOICE
(log 27): at `addr` 0xFFFF the high byte is read at 0x0000. -/
def Memory.readWord (m : Memory) (a : Addr) : Addr :=
  m.readPointer a (a + 1)

end Sys2Proof.Machine
end

