-- ==== Sys2Proof/Machine/Operands.lean ====
section
/-! DEFINITION. What each mode tag tells the consumer to do (spec/30_encoding.md R62 to R69), and the addresses the
control-transfer opcodes name (R65, R155 to R168). The index registers are read, never written (R64, R100). The
wrap-arounds are the spec's own, from general knowledge (D17, G3; log 11). -/

namespace Sys2Proof.Machine

/-- `ea = zext_16(b1)` (R63). -/
def eaZeroPage (b1 : Byte) : Addr :=
  b1.setWidth 16

/-- `ea = zext_16((b1 + index) mod 256)`: the sum never leaves the zero page (R64). -/
def eaZeroPageIndexed (b1 index : Byte) : Addr :=
  (b1 + index).setWidth 16

/-- `ea = b2:b1` (R65). -/
def eaAbsolute (b1 b2 : Byte) : Addr :=
  addrOf b1 b2

/-- `ea = (b2:b1 + zext_16(index)) mod 65536` (R66). -/
def eaAbsoluteIndexed (b1 b2 index : Byte) : Addr :=
  addrOf b1 b2 + index.setWidth 16

/-- The two-byte pointer at zero-page address `p`, the address of its high byte wrapping inside the page (R67, R68). -/
def zeroPagePointer (m : Memory) (p : Byte) : Addr :=
  m.readPointer (p.setWidth 16) ((p + 1).setWidth 16)

/-- Indexed before dereferencing (R67). -/
def eaIndirectX (m : Memory) (b1 x : Byte) : Addr :=
  zeroPagePointer m (b1 + x)

/-- Indexed after dereferencing (R68). -/
def eaIndirectY (m : Memory) (b1 y : Byte) : Addr :=
  zeroPagePointer m b1 + y.setWidth 16

/-- The operand a tag gives for the operand bytes `b1` and `b2`, of an instruction at the consumer's `ip`. A tag
looks only at the bytes it consumes (R45). -/
def resolve (m : Mode) (b1 b2 : Byte) (s : State) : Operand :=
  match m with
  | .immediate => .immediate b1 (s.ip + 1)
  | .zeroPage => .memory (eaZeroPage b1)
  | .zeroPageX => .memory (eaZeroPageIndexed b1 s.x)
  | .zeroPageY => .memory (eaZeroPageIndexed b1 s.y)
  | .absolute => .memory (eaAbsolute b1 b2)
  | .absoluteX => .memory (eaAbsoluteIndexed b1 b2 s.x)
  | .absoluteY => .memory (eaAbsoluteIndexed b1 b2 s.y)
  | .indirectX => .memory (eaIndirectX s.mem b1 s.x)
  | .indirectY => .memory (eaIndirectY s.mem b1 s.y)
  | .implied => .implied

/-- `(ip + 2 + sext_16(b1)) mod 65536` (R161 to R168). -/
def branchTarget (ip : Addr) (b1 : Byte) : Addr :=
  ip + 2 + b1.signExtend 16

/-- A conditional branch at `ip`: its target if taken, and its successor if not (R161 to R168). -/
def branchTransfer (b1 : Byte) (s : State) : Transfer :=
  .branch (branchTarget s.ip b1) (s.ip + 2)

/-- The target of `JMP ($nnnn)`: the pointer's high byte is fetched without carry into the page (R156). -/
def jumpIndirectTarget (m : Memory) (p : Addr) : Addr :=
  m.readPointer p ((p &&& 0xFF00#16) ||| ((p + 1) &&& 0x00FF#16))

end Sys2Proof.Machine
end

