-- ==== Sys2Proof/Machine/Ports.lean ====
section
/-! DEFINITION. The output ports of the block (R21, R22), a reader of them (R236), and the stored forms of a ROM
word (R75). -/

namespace Sys2Proof

/-- The outputs for an input byte (R22). The values for absent are decision D3 (log 18). -/
def portsOf (op : Byte) : Ports :=
  match lookup op with
  | some r => { valid := 1, length := BitVec.ofNat 2 r.length, mode := r.mode.code, opcodeOut := r.opcode }
  | none => { valid := 0, length := 0, mode := 0xF, opcodeOut := op }

/-- How a consumer reads the ports. `valid` is tested first, and nothing else is looked at when it is 0 (R236); a
mode code without a tag, or a length that disagrees with its tag, is refused (D21, R58). `none` is the refusal,
`some none` the outcome absent. -/
def Ports.read (p : Ports) : Option (Option DecodeRecord) :=
  if p.valid = 1#1 then
    match Mode.ofCode p.mode with
    | some m => if p.length.toNat = 1 + operandLength m then some (some ⟨p.opcodeOut, m⟩) else none
    | none => none
  else some none

/-- The answer as one word of 15 bits, `valid` the top one (R75). -/
def Ports.pack (p : Ports) : BitVec 15 :=
  p.valid ++ p.length ++ p.mode ++ p.opcodeOut

/-- The seven stored bits of a key: valid, length, mode (R75, R242). -/
def romWord7 (op : Byte) : BitVec 7 :=
  (portsOf op).valid ++ (portsOf op).length ++ (portsOf op).mode

/-- The five stored bits of a key: valid, mode (R75). -/
def romWord5 (op : Byte) : BitVec 5 :=
  (portsOf op).valid ++ (portsOf op).mode

/-- The outputs of a block that stores seven bits for the key `op`. -/
def ports7 (op : Byte) (w : BitVec 7) : Ports :=
  { valid := w.extractLsb' 6 1, length := w.extractLsb' 4 2, mode := w.extractLsb' 0 4, opcodeOut := op }

/-- The length a block that stores five bits derives from the mode code by R52; 0 for a code that is no tag. -/
def lengthOfCode (c : BitVec 4) : BitVec 2 :=
  match Mode.ofCode c with
  | some m => BitVec.ofNat 2 (1 + operandLength m)
  | none => 0

/-- The outputs of a block that stores five bits for the key `op`. -/
def ports5 (op : Byte) (w : BitVec 5) : Ports :=
  let c := w.extractLsb' 0 4
  { valid := w.extractLsb' 4 1, length := lengthOfCode c, mode := c, opcodeOut := op }

/-- The outputs of the block that a consumer's input port drives: a function of `opcodeIn` alone (R22). -/
def Machine.State.ports (s : Machine.State) : Ports :=
  portsOf s.opcodeIn

end Sys2Proof
end

