-- ==== Sys2Proof/Machine/Ops.lean ====
section
/-! DEFINITION. The operations the instructions and the step share: the advance of the instruction pointer, a decode
transaction that is answered with a record, one that is answered absent, and fetching. There is no trap entry and no
trap return (R211, R212): what stands in their place is `undefinedOpcode`, the consumer's policy on absent (R209). -/

namespace Sys2Proof.Machine

/-- `NextIP(ip, rec) = (ip + rec.length) mod 65536` (R15; the wrap is D13, log 10). -/
def nextIP (ip : Addr) (r : DecodeRecord) : Addr :=
  ip + BitVec.ofNat 16 r.length

/-- The state after a transaction answered with the record `(op, 1 + operand_length(m), m)`: the byte is on the
input port, the consumer has the record, the operand resolved from it, and its pointer at `NextIP` (R15, R61, R234).
No register, no flag and no byte of memory is written (R16, R100). -/
def answered (op : Byte) (m : Mode) (b1 b2 : Byte) (t : Transfer) (s : State) : State :=
  { s with
    opcodeIn := op
    received := some ⟨op, m⟩
    operand := resolve m b1 b2 s
    transfer := t
    p := keepFlags s.p
    ip := nextIP s.ip ⟨op, m⟩ }

/-- A transaction of format F1: no operand byte (R58). -/
def answerF1 (op : Byte) (t : Transfer) (s : State) : Result :=
  .next (answered op .implied 0 0 t s)

/-- A transaction of format F2: one operand byte (R58). -/
def answerF2 (op : Byte) (m : Mode) (b1 : Byte) (t : Transfer) (s : State) : Result :=
  .next (answered op m b1 0 t s)

/-- A transaction of format F3: two operand bytes, an address (R58). -/
def answerF3 (op : Byte) (m : Mode) (addr : Addr) (t : Transfer) (s : State) : Result :=
  .next (answered op m (lowByte addr) (highByte addr) t s)

/-- The state after a transaction answered absent, of a consumer that stops where it is: the byte is on the input
port, there is no record, so no operand and no `NextIP` (R15, R205, R211). -/
def answeredAbsent (op : Byte) (s : State) : State :=
  { s with
    opcodeIn := op
    received := none
    operand := .unresolved
    transfer := .sequential }

/-- What the consumer does with an opcode byte that has no record: its policy (R209), never a guessed length. -/
def undefinedOpcode (op : Byte) (s : State) : Result :=
  match s.policy with
  | .halt => .next (answeredAbsent op s)
  | .fault => .fault (.undefinedOpcode op)
  | .unofficialAlias => .refused (.unofficialOpcode op)

/-- The opcode byte the consumer presents: the one at its instruction pointer (R14, R234). -/
def opcodeAt (s : State) : Byte :=
  s.mem.read s.ip

/-- The instruction at the instruction pointer. The operand bytes are fetched after the record is known, and exactly
as many as it says (R234); `none` if the opcode is absent. -/
def fetch (s : State) : Option Instr :=
  match lookup (opcodeAt s) with
  | none => none
  | some r =>
    match decode (s.mem.readBytes s.ip r.length) with
    | .ok (i, _) => some i
    | .error _ => none

end Sys2Proof.Machine
end

