-- ==== Sys2Proof/Machine/ControlFlow.lean ====
section
/-! DEFINITION. The meanings of the jumps, calls, returns, BRK and branches (spec/44_control_flow.md R155 to R168). All the block does with an
opcode is to answer its record (R155), so a meaning is a decode transaction answered with the record of its rule;
what the instruction would compute is out of scope (R4, log 1). -/

namespace Sys2Proof.Machine

/-- `JMP $nnnn` (R156). The operand bytes are the target (R65). -/
def execJmpAbs (addr : Addr) (s : State) : Result :=
  answerF3 0x4C#8 .absolute addr (.jump addr) s

/-- `JMP ($nnnn)` (R156).
The operand bytes are the address of a pointer to the target; the tag is `Absolute` (R56). -/
def execJmpInd (addr : Addr) (s : State) : Result :=
  answerF3 0x6C#8 .absolute addr (.jumpIndirect addr (jumpIndirectTarget s.mem addr)) s

/-- `JSR $nnnn` (R157). The operand bytes are the target; the address of its own last byte is saved, which
lies at `ip + 2` mod 65536 (R34). -/
def execJsr (addr : Addr) (s : State) : Result :=
  answerF3 0x20#8 .absolute addr (.call addr (s.ip + 2)) s

/-- `RTS` (R158). Control does not continue at `NextIP`. -/
def execRts (s : State) : Result :=
  answerF1 0x60#8 .fromStack s

/-- `RTI` (R159). Decoded like any other one-byte opcode; what it restores is out of scope (R212). -/
def execRti (s : State) : Result :=
  answerF1 0x40#8 .fromStack s

/-- `BRK` (R160). Length 1 (R239); the address it saves is `ip + 2`. R160 and R239 give that sum no modulus; DESIGN CHOICE
(log 28): it is taken mod 65536, so `BRK` at 0xFFFF saves 0x0001. -/
def execBrk (s : State) : Result :=
  answerF1 0x00#8 (.softwareBreak (s.ip + 2)) s

/-- `BCC label` (R161). The operand byte is a signed displacement; the tag is `Immediate` (R56). -/
def execBcc (b1 : Byte) (s : State) : Result :=
  answerF2 0x90#8 .immediate b1 (branchTransfer b1 s) s

/-- `BCS label` (R162). The operand byte is a signed displacement; the tag is `Immediate` (R56). -/
def execBcs (b1 : Byte) (s : State) : Result :=
  answerF2 0xB0#8 .immediate b1 (branchTransfer b1 s) s

/-- `BEQ label` (R163). The operand byte is a signed displacement; the tag is `Immediate` (R56). -/
def execBeq (b1 : Byte) (s : State) : Result :=
  answerF2 0xF0#8 .immediate b1 (branchTransfer b1 s) s

/-- `BMI label` (R164). The operand byte is a signed displacement; the tag is `Immediate` (R56). -/
def execBmi (b1 : Byte) (s : State) : Result :=
  answerF2 0x30#8 .immediate b1 (branchTransfer b1 s) s

/-- `BNE label` (R165). The operand byte is a signed displacement; the tag is `Immediate` (R56). -/
def execBne (b1 : Byte) (s : State) : Result :=
  answerF2 0xD0#8 .immediate b1 (branchTransfer b1 s) s

/-- `BPL label` (R166). The operand byte is a signed displacement; the tag is `Immediate` (R56). -/
def execBpl (b1 : Byte) (s : State) : Result :=
  answerF2 0x10#8 .immediate b1 (branchTransfer b1 s) s

/-- `BVC label` (R167). The operand byte is a signed displacement; the tag is `Immediate` (R56). -/
def execBvc (b1 : Byte) (s : State) : Result :=
  answerF2 0x50#8 .immediate b1 (branchTransfer b1 s) s

/-- `BVS label` (R168). The operand byte is a signed displacement; the tag is `Immediate` (R56). -/
def execBvs (b1 : Byte) (s : State) : Result :=
  answerF2 0x70#8 .immediate b1 (branchTransfer b1 s) s

end Sys2Proof.Machine
end

