-- ==== Sys2Proof/Machine/FlagsNop.lean ====
section
/-! DEFINITION. The meanings of the flag instructions and NOP (spec/45_flags_nop.md R175 to R183). All the block does with an
opcode is to answer its record (R175), so a meaning is a decode transaction answered with the record of its rule;
what the instruction would compute is out of scope (R4, log 1). -/

namespace Sys2Proof.Machine

/-- `CLC` (R176). -/
def execClc (s : State) : Result :=
  answerF1 0x18#8 .sequential s

/-- `CLD` (R177). -/
def execCld (s : State) : Result :=
  answerF1 0xD8#8 .sequential s

/-- `CLI` (R178). -/
def execCli (s : State) : Result :=
  answerF1 0x58#8 .sequential s

/-- `CLV` (R179). -/
def execClv (s : State) : Result :=
  answerF1 0xB8#8 .sequential s

/-- `SEC` (R180). -/
def execSec (s : State) : Result :=
  answerF1 0x38#8 .sequential s

/-- `SED` (R181). -/
def execSed (s : State) : Result :=
  answerF1 0xF8#8 .sequential s

/-- `SEI` (R182). -/
def execSei (s : State) : Result :=
  answerF1 0x78#8 .sequential s

/-- `NOP` (R183). -/
def execNop (s : State) : Result :=
  answerF1 0xEA#8 .sequential s

end Sys2Proof.Machine
end

