-- ==== Sys2Proof/Machine/IncDecShift.lean ====
section
/-! DEFINITION. The meanings of the increments, decrements, shifts and rotates (spec/43_incdec_shift.md R140 to R150). All the block does with an
opcode is to answer its record (R140), so a meaning is a decode transaction answered with the record of its rule;
what the instruction would compute is out of scope (R4, log 1). -/

namespace Sys2Proof.Machine

/-- `INC $nn` (R141). -/
def execIncZp (b1 : Byte) (s : State) : Result :=
  answerF2 0xE6#8 .zeroPage b1 .sequential s

/-- `INC $nnnn` (R141). -/
def execIncAbs (addr : Addr) (s : State) : Result :=
  answerF3 0xEE#8 .absolute addr .sequential s

/-- `INC $nn,X` (R141). -/
def execIncZpX (b1 : Byte) (s : State) : Result :=
  answerF2 0xF6#8 .zeroPageX b1 .sequential s

/-- `INC $nnnn,X` (R141). -/
def execIncAbsX (addr : Addr) (s : State) : Result :=
  answerF3 0xFE#8 .absoluteX addr .sequential s

/-- `INX` (R142). -/
def execInx (s : State) : Result :=
  answerF1 0xE8#8 .sequential s

/-- `INY` (R143). -/
def execIny (s : State) : Result :=
  answerF1 0xC8#8 .sequential s

/-- `DEC $nn` (R144). -/
def execDecZp (b1 : Byte) (s : State) : Result :=
  answerF2 0xC6#8 .zeroPage b1 .sequential s

/-- `DEC $nnnn` (R144). -/
def execDecAbs (addr : Addr) (s : State) : Result :=
  answerF3 0xCE#8 .absolute addr .sequential s

/-- `DEC $nn,X` (R144). -/
def execDecZpX (b1 : Byte) (s : State) : Result :=
  answerF2 0xD6#8 .zeroPageX b1 .sequential s

/-- `DEC $nnnn,X` (R144). -/
def execDecAbsX (addr : Addr) (s : State) : Result :=
  answerF3 0xDE#8 .absoluteX addr .sequential s

/-- `DEX` (R145). -/
def execDex (s : State) : Result :=
  answerF1 0xCA#8 .sequential s

/-- `DEY` (R146). -/
def execDey (s : State) : Result :=
  answerF1 0x88#8 .sequential s

/-- `ASL $nn` (R147). -/
def execAslZp (b1 : Byte) (s : State) : Result :=
  answerF2 0x06#8 .zeroPage b1 .sequential s

/-- `ASL A` (R147). The operand is the accumulator, which the opcode tells and the tag does not (R55). -/
def execAslAcc (s : State) : Result :=
  answerF1 0x0A#8 .sequential s

/-- `ASL $nnnn` (R147). -/
def execAslAbs (addr : Addr) (s : State) : Result :=
  answerF3 0x0E#8 .absolute addr .sequential s

/-- `ASL $nn,X` (R147). -/
def execAslZpX (b1 : Byte) (s : State) : Result :=
  answerF2 0x16#8 .zeroPageX b1 .sequential s

/-- `ASL $nnnn,X` (R147). -/
def execAslAbsX (addr : Addr) (s : State) : Result :=
  answerF3 0x1E#8 .absoluteX addr .sequential s

/-- `LSR $nn` (R148). -/
def execLsrZp (b1 : Byte) (s : State) : Result :=
  answerF2 0x46#8 .zeroPage b1 .sequential s

/-- `LSR A` (R148). The operand is the accumulator, which the opcode tells and the tag does not (R55). -/
def execLsrAcc (s : State) : Result :=
  answerF1 0x4A#8 .sequential s

/-- `LSR $nnnn` (R148). -/
def execLsrAbs (addr : Addr) (s : State) : Result :=
  answerF3 0x4E#8 .absolute addr .sequential s

/-- `LSR $nn,X` (R148). -/
def execLsrZpX (b1 : Byte) (s : State) : Result :=
  answerF2 0x56#8 .zeroPageX b1 .sequential s

/-- `LSR $nnnn,X` (R148). -/
def execLsrAbsX (addr : Addr) (s : State) : Result :=
  answerF3 0x5E#8 .absoluteX addr .sequential s

/-- `ROL $nn` (R149). -/
def execRolZp (b1 : Byte) (s : State) : Result :=
  answerF2 0x26#8 .zeroPage b1 .sequential s

/-- `ROL A` (R149). The operand is the accumulator, which the opcode tells and the tag does not (R55). -/
def execRolAcc (s : State) : Result :=
  answerF1 0x2A#8 .sequential s

/-- `ROL $nnnn` (R149). -/
def execRolAbs (addr : Addr) (s : State) : Result :=
  answerF3 0x2E#8 .absolute addr .sequential s

/-- `ROL $nn,X` (R149). -/
def execRolZpX (b1 : Byte) (s : State) : Result :=
  answerF2 0x36#8 .zeroPageX b1 .sequential s

/-- `ROL $nnnn,X` (R149). -/
def execRolAbsX (addr : Addr) (s : State) : Result :=
  answerF3 0x3E#8 .absoluteX addr .sequential s

/-- `ROR $nn` (R150). -/
def execRorZp (b1 : Byte) (s : State) : Result :=
  answerF2 0x66#8 .zeroPage b1 .sequential s

/-- `ROR A` (R150). The operand is the accumulator, which the opcode tells and the tag does not (R55). -/
def execRorAcc (s : State) : Result :=
  answerF1 0x6A#8 .sequential s

/-- `ROR $nnnn` (R150). -/
def execRorAbs (addr : Addr) (s : State) : Result :=
  answerF3 0x6E#8 .absolute addr .sequential s

/-- `ROR $nn,X` (R150). -/
def execRorZpX (b1 : Byte) (s : State) : Result :=
  answerF2 0x76#8 .zeroPageX b1 .sequential s

/-- `ROR $nnnn,X` (R150). -/
def execRorAbsX (addr : Addr) (s : State) : Result :=
  answerF3 0x7E#8 .absoluteX addr .sequential s

end Sys2Proof.Machine
end

