-- ==== Sys2Proof/Machine/LoadStore.lean ====
section
/-! DEFINITION. The meanings of the loads and stores (spec/40_load_store.md R100 to R106). All the block does with an
opcode is to answer its record (R100), so a meaning is a decode transaction answered with the record of its rule;
what the instruction would compute is out of scope (R4, log 1). -/

namespace Sys2Proof.Machine

/-- `LDA ($nn,X)` (R101). -/
def execLdaIndX (b1 : Byte) (s : State) : Result :=
  answerF2 0xA1#8 .indirectX b1 .sequential s

/-- `LDA $nn` (R101). -/
def execLdaZp (b1 : Byte) (s : State) : Result :=
  answerF2 0xA5#8 .zeroPage b1 .sequential s

/-- `LDA #$nn` (R101). -/
def execLdaImm (b1 : Byte) (s : State) : Result :=
  answerF2 0xA9#8 .immediate b1 .sequential s

/-- `LDA $nnnn` (R101). -/
def execLdaAbs (addr : Addr) (s : State) : Result :=
  answerF3 0xAD#8 .absolute addr .sequential s

/-- `LDA ($nn),Y` (R101). -/
def execLdaIndY (b1 : Byte) (s : State) : Result :=
  answerF2 0xB1#8 .indirectY b1 .sequential s

/-- `LDA $nn,X` (R101). -/
def execLdaZpX (b1 : Byte) (s : State) : Result :=
  answerF2 0xB5#8 .zeroPageX b1 .sequential s

/-- `LDA $nnnn,Y` (R101). -/
def execLdaAbsY (addr : Addr) (s : State) : Result :=
  answerF3 0xB9#8 .absoluteY addr .sequential s

/-- `LDA $nnnn,X` (R101). -/
def execLdaAbsX (addr : Addr) (s : State) : Result :=
  answerF3 0xBD#8 .absoluteX addr .sequential s

/-- `LDX #$nn` (R102). -/
def execLdxImm (b1 : Byte) (s : State) : Result :=
  answerF2 0xA2#8 .immediate b1 .sequential s

/-- `LDX $nn` (R102). -/
def execLdxZp (b1 : Byte) (s : State) : Result :=
  answerF2 0xA6#8 .zeroPage b1 .sequential s

/-- `LDX $nnnn` (R102). -/
def execLdxAbs (addr : Addr) (s : State) : Result :=
  answerF3 0xAE#8 .absolute addr .sequential s

/-- `LDX $nn,Y` (R102). -/
def execLdxZpY (b1 : Byte) (s : State) : Result :=
  answerF2 0xB6#8 .zeroPageY b1 .sequential s

/-- `LDX $nnnn,Y` (R102). -/
def execLdxAbsY (addr : Addr) (s : State) : Result :=
  answerF3 0xBE#8 .absoluteY addr .sequential s

/-- `LDY #$nn` (R103). -/
def execLdyImm (b1 : Byte) (s : State) : Result :=
  answerF2 0xA0#8 .immediate b1 .sequential s

/-- `LDY $nn` (R103). -/
def execLdyZp (b1 : Byte) (s : State) : Result :=
  answerF2 0xA4#8 .zeroPage b1 .sequential s

/-- `LDY $nnnn` (R103). -/
def execLdyAbs (addr : Addr) (s : State) : Result :=
  answerF3 0xAC#8 .absolute addr .sequential s

/-- `LDY $nn,X` (R103). -/
def execLdyZpX (b1 : Byte) (s : State) : Result :=
  answerF2 0xB4#8 .zeroPageX b1 .sequential s

/-- `LDY $nnnn,X` (R103). -/
def execLdyAbsX (addr : Addr) (s : State) : Result :=
  answerF3 0xBC#8 .absoluteX addr .sequential s

/-- `STA ($nn,X)` (R104). -/
def execStaIndX (b1 : Byte) (s : State) : Result :=
  answerF2 0x81#8 .indirectX b1 .sequential s

/-- `STA $nn` (R104). -/
def execStaZp (b1 : Byte) (s : State) : Result :=
  answerF2 0x85#8 .zeroPage b1 .sequential s

/-- `STA $nnnn` (R104). -/
def execStaAbs (addr : Addr) (s : State) : Result :=
  answerF3 0x8D#8 .absolute addr .sequential s

/-- `STA ($nn),Y` (R104). -/
def execStaIndY (b1 : Byte) (s : State) : Result :=
  answerF2 0x91#8 .indirectY b1 .sequential s

/-- `STA $nn,X` (R104). -/
def execStaZpX (b1 : Byte) (s : State) : Result :=
  answerF2 0x95#8 .zeroPageX b1 .sequential s

/-- `STA $nnnn,Y` (R104). -/
def execStaAbsY (addr : Addr) (s : State) : Result :=
  answerF3 0x99#8 .absoluteY addr .sequential s

/-- `STA $nnnn,X` (R104). -/
def execStaAbsX (addr : Addr) (s : State) : Result :=
  answerF3 0x9D#8 .absoluteX addr .sequential s

/-- `STX $nn` (R105). -/
def execStxZp (b1 : Byte) (s : State) : Result :=
  answerF2 0x86#8 .zeroPage b1 .sequential s

/-- `STX $nnnn` (R105). -/
def execStxAbs (addr : Addr) (s : State) : Result :=
  answerF3 0x8E#8 .absolute addr .sequential s

/-- `STX $nn,Y` (R105). -/
def execStxZpY (b1 : Byte) (s : State) : Result :=
  answerF2 0x96#8 .zeroPageY b1 .sequential s

/-- `STY $nn` (R106). -/
def execStyZp (b1 : Byte) (s : State) : Result :=
  answerF2 0x84#8 .zeroPage b1 .sequential s

/-- `STY $nnnn` (R106). -/
def execStyAbs (addr : Addr) (s : State) : Result :=
  answerF3 0x8C#8 .absolute addr .sequential s

/-- `STY $nn,X` (R106). -/
def execStyZpX (b1 : Byte) (s : State) : Result :=
  answerF2 0x94#8 .zeroPageX b1 .sequential s

end Sys2Proof.Machine
end

