-- ==== Sys2Proof/Machine/LogicArith.lean ====
section
/-! DEFINITION. The meanings of the logic, arithmetic and compare (spec/42_logic_arith.md R125 to R134). All the block does with an
opcode is to answer its record (R125), so a meaning is a decode transaction answered with the record of its rule;
what the instruction would compute is out of scope (R4, log 1). -/

namespace Sys2Proof.Machine

/-- `AND ($nn,X)` (R126). -/
def execAndIndX (b1 : Byte) (s : State) : Result :=
  answerF2 0x21#8 .indirectX b1 .sequential s

/-- `AND $nn` (R126). -/
def execAndZp (b1 : Byte) (s : State) : Result :=
  answerF2 0x25#8 .zeroPage b1 .sequential s

/-- `AND #$nn` (R126). -/
def execAndImm (b1 : Byte) (s : State) : Result :=
  answerF2 0x29#8 .immediate b1 .sequential s

/-- `AND $nnnn` (R126). -/
def execAndAbs (addr : Addr) (s : State) : Result :=
  answerF3 0x2D#8 .absolute addr .sequential s

/-- `AND ($nn),Y` (R126). -/
def execAndIndY (b1 : Byte) (s : State) : Result :=
  answerF2 0x31#8 .indirectY b1 .sequential s

/-- `AND $nn,X` (R126). -/
def execAndZpX (b1 : Byte) (s : State) : Result :=
  answerF2 0x35#8 .zeroPageX b1 .sequential s

/-- `AND $nnnn,Y` (R126). -/
def execAndAbsY (addr : Addr) (s : State) : Result :=
  answerF3 0x39#8 .absoluteY addr .sequential s

/-- `AND $nnnn,X` (R126). -/
def execAndAbsX (addr : Addr) (s : State) : Result :=
  answerF3 0x3D#8 .absoluteX addr .sequential s

/-- `EOR ($nn,X)` (R127). -/
def execEorIndX (b1 : Byte) (s : State) : Result :=
  answerF2 0x41#8 .indirectX b1 .sequential s

/-- `EOR $nn` (R127). -/
def execEorZp (b1 : Byte) (s : State) : Result :=
  answerF2 0x45#8 .zeroPage b1 .sequential s

/-- `EOR #$nn` (R127). -/
def execEorImm (b1 : Byte) (s : State) : Result :=
  answerF2 0x49#8 .immediate b1 .sequential s

/-- `EOR $nnnn` (R127). -/
def execEorAbs (addr : Addr) (s : State) : Result :=
  answerF3 0x4D#8 .absolute addr .sequential s

/-- `EOR ($nn),Y` (R127). -/
def execEorIndY (b1 : Byte) (s : State) : Result :=
  answerF2 0x51#8 .indirectY b1 .sequential s

/-- `EOR $nn,X` (R127). -/
def execEorZpX (b1 : Byte) (s : State) : Result :=
  answerF2 0x55#8 .zeroPageX b1 .sequential s

/-- `EOR $nnnn,Y` (R127). -/
def execEorAbsY (addr : Addr) (s : State) : Result :=
  answerF3 0x59#8 .absoluteY addr .sequential s

/-- `EOR $nnnn,X` (R127). -/
def execEorAbsX (addr : Addr) (s : State) : Result :=
  answerF3 0x5D#8 .absoluteX addr .sequential s

/-- `ORA ($nn,X)` (R128). -/
def execOraIndX (b1 : Byte) (s : State) : Result :=
  answerF2 0x01#8 .indirectX b1 .sequential s

/-- `ORA $nn` (R128). -/
def execOraZp (b1 : Byte) (s : State) : Result :=
  answerF2 0x05#8 .zeroPage b1 .sequential s

/-- `ORA #$nn` (R128). -/
def execOraImm (b1 : Byte) (s : State) : Result :=
  answerF2 0x09#8 .immediate b1 .sequential s

/-- `ORA $nnnn` (R128). -/
def execOraAbs (addr : Addr) (s : State) : Result :=
  answerF3 0x0D#8 .absolute addr .sequential s

/-- `ORA ($nn),Y` (R128). -/
def execOraIndY (b1 : Byte) (s : State) : Result :=
  answerF2 0x11#8 .indirectY b1 .sequential s

/-- `ORA $nn,X` (R128). -/
def execOraZpX (b1 : Byte) (s : State) : Result :=
  answerF2 0x15#8 .zeroPageX b1 .sequential s

/-- `ORA $nnnn,Y` (R128). -/
def execOraAbsY (addr : Addr) (s : State) : Result :=
  answerF3 0x19#8 .absoluteY addr .sequential s

/-- `ORA $nnnn,X` (R128). -/
def execOraAbsX (addr : Addr) (s : State) : Result :=
  answerF3 0x1D#8 .absoluteX addr .sequential s

/-- `BIT $nn` (R129). -/
def execBitZp (b1 : Byte) (s : State) : Result :=
  answerF2 0x24#8 .zeroPage b1 .sequential s

/-- `BIT $nnnn` (R129). -/
def execBitAbs (addr : Addr) (s : State) : Result :=
  answerF3 0x2C#8 .absolute addr .sequential s

/-- `ADC ($nn,X)` (R130). -/
def execAdcIndX (b1 : Byte) (s : State) : Result :=
  answerF2 0x61#8 .indirectX b1 .sequential s

/-- `ADC $nn` (R130). -/
def execAdcZp (b1 : Byte) (s : State) : Result :=
  answerF2 0x65#8 .zeroPage b1 .sequential s

/-- `ADC #$nn` (R130). -/
def execAdcImm (b1 : Byte) (s : State) : Result :=
  answerF2 0x69#8 .immediate b1 .sequential s

/-- `ADC $nnnn` (R130). -/
def execAdcAbs (addr : Addr) (s : State) : Result :=
  answerF3 0x6D#8 .absolute addr .sequential s

/-- `ADC ($nn),Y` (R130). -/
def execAdcIndY (b1 : Byte) (s : State) : Result :=
  answerF2 0x71#8 .indirectY b1 .sequential s

/-- `ADC $nn,X` (R130). -/
def execAdcZpX (b1 : Byte) (s : State) : Result :=
  answerF2 0x75#8 .zeroPageX b1 .sequential s

/-- `ADC $nnnn,Y` (R130). -/
def execAdcAbsY (addr : Addr) (s : State) : Result :=
  answerF3 0x79#8 .absoluteY addr .sequential s

/-- `ADC $nnnn,X` (R130). -/
def execAdcAbsX (addr : Addr) (s : State) : Result :=
  answerF3 0x7D#8 .absoluteX addr .sequential s

/-- `SBC ($nn,X)` (R131). -/
def execSbcIndX (b1 : Byte) (s : State) : Result :=
  answerF2 0xE1#8 .indirectX b1 .sequential s

/-- `SBC $nn` (R131). -/
def execSbcZp (b1 : Byte) (s : State) : Result :=
  answerF2 0xE5#8 .zeroPage b1 .sequential s

/-- `SBC #$nn` (R131). -/
def execSbcImm (b1 : Byte) (s : State) : Result :=
  answerF2 0xE9#8 .immediate b1 .sequential s

/-- `SBC $nnnn` (R131). -/
def execSbcAbs (addr : Addr) (s : State) : Result :=
  answerF3 0xED#8 .absolute addr .sequential s

/-- `SBC ($nn),Y` (R131). -/
def execSbcIndY (b1 : Byte) (s : State) : Result :=
  answerF2 0xF1#8 .indirectY b1 .sequential s

/-- `SBC $nn,X` (R131). -/
def execSbcZpX (b1 : Byte) (s : State) : Result :=
  answerF2 0xF5#8 .zeroPageX b1 .sequential s

/-- `SBC $nnnn,Y` (R131). -/
def execSbcAbsY (addr : Addr) (s : State) : Result :=
  answerF3 0xF9#8 .absoluteY addr .sequential s

/-- `SBC $nnnn,X` (R131). -/
def execSbcAbsX (addr : Addr) (s : State) : Result :=
  answerF3 0xFD#8 .absoluteX addr .sequential s

/-- `CMP ($nn,X)` (R132). -/
def execCmpIndX (b1 : Byte) (s : State) : Result :=
  answerF2 0xC1#8 .indirectX b1 .sequential s

/-- `CMP $nn` (R132). -/
def execCmpZp (b1 : Byte) (s : State) : Result :=
  answerF2 0xC5#8 .zeroPage b1 .sequential s

/-- `CMP #$nn` (R132). -/
def execCmpImm (b1 : Byte) (s : State) : Result :=
  answerF2 0xC9#8 .immediate b1 .sequential s

/-- `CMP $nnnn` (R132). -/
def execCmpAbs (addr : Addr) (s : State) : Result :=
  answerF3 0xCD#8 .absolute addr .sequential s

/-- `CMP ($nn),Y` (R132). -/
def execCmpIndY (b1 : Byte) (s : State) : Result :=
  answerF2 0xD1#8 .indirectY b1 .sequential s

/-- `CMP $nn,X` (R132). -/
def execCmpZpX (b1 : Byte) (s : State) : Result :=
  answerF2 0xD5#8 .zeroPageX b1 .sequential s

/-- `CMP $nnnn,Y` (R132). -/
def execCmpAbsY (addr : Addr) (s : State) : Result :=
  answerF3 0xD9#8 .absoluteY addr .sequential s

/-- `CMP $nnnn,X` (R132). -/
def execCmpAbsX (addr : Addr) (s : State) : Result :=
  answerF3 0xDD#8 .absoluteX addr .sequential s

/-- `CPX #$nn` (R133). -/
def execCpxImm (b1 : Byte) (s : State) : Result :=
  answerF2 0xE0#8 .immediate b1 .sequential s

/-- `CPX $nn` (R133). -/
def execCpxZp (b1 : Byte) (s : State) : Result :=
  answerF2 0xE4#8 .zeroPage b1 .sequential s

/-- `CPX $nnnn` (R133). -/
def execCpxAbs (addr : Addr) (s : State) : Result :=
  answerF3 0xEC#8 .absolute addr .sequential s

/-- `CPY #$nn` (R134). -/
def execCpyImm (b1 : Byte) (s : State) : Result :=
  answerF2 0xC0#8 .immediate b1 .sequential s

/-- `CPY $nn` (R134). -/
def execCpyZp (b1 : Byte) (s : State) : Result :=
  answerF2 0xC4#8 .zeroPage b1 .sequential s

/-- `CPY $nnnn` (R134). -/
def execCpyAbs (addr : Addr) (s : State) : Result :=
  answerF3 0xCC#8 .absolute addr .sequential s

end Sys2Proof.Machine
end

