-- ==== Sys2Proof/Machine/TransferStack.lean ====
section
/-! DEFINITION. The meanings of the register transfers and stack instructions (spec/41_transfer_stack.md R110 to R120). All the block does with an
opcode is to answer its record (R110), so a meaning is a decode transaction answered with the record of its rule;
what the instruction would compute is out of scope (R4, log 1). -/

namespace Sys2Proof.Machine

/-- `TAX` (R111). -/
def execTax (s : State) : Result :=
  answerF1 0xAA#8 .sequential s

/-- `TAY` (R112). -/
def execTay (s : State) : Result :=
  answerF1 0xA8#8 .sequential s

/-- `TSX` (R113). -/
def execTsx (s : State) : Result :=
  answerF1 0xBA#8 .sequential s

/-- `TXA` (R114). -/
def execTxa (s : State) : Result :=
  answerF1 0x8A#8 .sequential s

/-- `TXS` (R115). -/
def execTxs (s : State) : Result :=
  answerF1 0x9A#8 .sequential s

/-- `TYA` (R116). -/
def execTya (s : State) : Result :=
  answerF1 0x98#8 .sequential s

/-- `PHA` (R117). -/
def execPha (s : State) : Result :=
  answerF1 0x48#8 .sequential s

/-- `PHP` (R118). -/
def execPhp (s : State) : Result :=
  answerF1 0x08#8 .sequential s

/-- `PLA` (R119). -/
def execPla (s : State) : Result :=
  answerF1 0x68#8 .sequential s

/-- `PLP` (R120). -/
def execPlp (s : State) : Result :=
  answerF1 0x28#8 .sequential s

end Sys2Proof.Machine
end

