-- ==== Sys2Proof/Machine/Dispatch.lean ====
section
/-! DEFINITION. One arm per constructor of `Instr`, each one direct call of its meaning. -/

namespace Sys2Proof.Machine

def exec (i : Instr) (s : State) : Host.Outcome State Fault Refusal :=
  match i with
  -- loads and stores
  | .ldaIndX b1 => Sys2Proof.Machine.execLdaIndX b1 s
  | .ldaZp b1 => Sys2Proof.Machine.execLdaZp b1 s
  | .ldaImm b1 => Sys2Proof.Machine.execLdaImm b1 s
  | .ldaAbs addr => Sys2Proof.Machine.execLdaAbs addr s
  | .ldaIndY b1 => Sys2Proof.Machine.execLdaIndY b1 s
  | .ldaZpX b1 => Sys2Proof.Machine.execLdaZpX b1 s
  | .ldaAbsY addr => Sys2Proof.Machine.execLdaAbsY addr s
  | .ldaAbsX addr => Sys2Proof.Machine.execLdaAbsX addr s
  | .ldxImm b1 => Sys2Proof.Machine.execLdxImm b1 s
  | .ldxZp b1 => Sys2Proof.Machine.execLdxZp b1 s
  | .ldxAbs addr => Sys2Proof.Machine.execLdxAbs addr s
  | .ldxZpY b1 => Sys2Proof.Machine.execLdxZpY b1 s
  | .ldxAbsY addr => Sys2Proof.Machine.execLdxAbsY addr s
  | .ldyImm b1 => Sys2Proof.Machine.execLdyImm b1 s
  | .ldyZp b1 => Sys2Proof.Machine.execLdyZp b1 s
  | .ldyAbs addr => Sys2Proof.Machine.execLdyAbs addr s
  | .ldyZpX b1 => Sys2Proof.Machine.execLdyZpX b1 s
  | .ldyAbsX addr => Sys2Proof.Machine.execLdyAbsX addr s
  | .staIndX b1 => Sys2Proof.Machine.execStaIndX b1 s
  | .staZp b1 => Sys2Proof.Machine.execStaZp b1 s
  | .staAbs addr => Sys2Proof.Machine.execStaAbs addr s
  | .staIndY b1 => Sys2Proof.Machine.execStaIndY b1 s
  | .staZpX b1 => Sys2Proof.Machine.execStaZpX b1 s
  | .staAbsY addr => Sys2Proof.Machine.execStaAbsY addr s
  | .staAbsX addr => Sys2Proof.Machine.execStaAbsX addr s
  | .stxZp b1 => Sys2Proof.Machine.execStxZp b1 s
  | .stxAbs addr => Sys2Proof.Machine.execStxAbs addr s
  | .stxZpY b1 => Sys2Proof.Machine.execStxZpY b1 s
  | .styZp b1 => Sys2Proof.Machine.execStyZp b1 s
  | .styAbs addr => Sys2Proof.Machine.execStyAbs addr s
  | .styZpX b1 => Sys2Proof.Machine.execStyZpX b1 s
  -- register transfers and stack instructions
  | .tax => Sys2Proof.Machine.execTax s
  | .tay => Sys2Proof.Machine.execTay s
  | .tsx => Sys2Proof.Machine.execTsx s
  | .txa => Sys2Proof.Machine.execTxa s
  | .txs => Sys2Proof.Machine.execTxs s
  | .tya => Sys2Proof.Machine.execTya s
  | .pha => Sys2Proof.Machine.execPha s
  | .php => Sys2Proof.Machine.execPhp s
  | .pla => Sys2Proof.Machine.execPla s
  | .plp => Sys2Proof.Machine.execPlp s
  -- logic, arithmetic and compare
  | .andIndX b1 => Sys2Proof.Machine.execAndIndX b1 s
  | .andZp b1 => Sys2Proof.Machine.execAndZp b1 s
  | .andImm b1 => Sys2Proof.Machine.execAndImm b1 s
  | .andAbs addr => Sys2Proof.Machine.execAndAbs addr s
  | .andIndY b1 => Sys2Proof.Machine.execAndIndY b1 s
  | .andZpX b1 => Sys2Proof.Machine.execAndZpX b1 s
  | .andAbsY addr => Sys2Proof.Machine.execAndAbsY addr s
  | .andAbsX addr => Sys2Proof.Machine.execAndAbsX addr s
  | .eorIndX b1 => Sys2Proof.Machine.execEorIndX b1 s
  | .eorZp b1 => Sys2Proof.Machine.execEorZp b1 s
  | .eorImm b1 => Sys2Proof.Machine.execEorImm b1 s
  | .eorAbs addr => Sys2Proof.Machine.execEorAbs addr s
  | .eorIndY b1 => Sys2Proof.Machine.execEorIndY b1 s
  | .eorZpX b1 => Sys2Proof.Machine.execEorZpX b1 s
  | .eorAbsY addr => Sys2Proof.Machine.execEorAbsY addr s
  | .eorAbsX addr => Sys2Proof.Machine.execEorAbsX addr s
  | .oraIndX b1 => Sys2Proof.Machine.execOraIndX b1 s
  | .oraZp b1 => Sys2Proof.Machine.execOraZp b1 s
  | .oraImm b1 => Sys2Proof.Machine.execOraImm b1 s
  | .oraAbs addr => Sys2Proof.Machine.execOraAbs addr s
  | .oraIndY b1 => Sys2Proof.Machine.execOraIndY b1 s
  | .oraZpX b1 => Sys2Proof.Machine.execOraZpX b1 s
  | .oraAbsY addr => Sys2Proof.Machine.execOraAbsY addr s
  | .oraAbsX addr => Sys2Proof.Machine.execOraAbsX addr s
  | .bitZp b1 => Sys2Proof.Machine.execBitZp b1 s
  | .bitAbs addr => Sys2Proof.Machine.execBitAbs addr s
  | .adcIndX b1 => Sys2Proof.Machine.execAdcIndX b1 s
  | .adcZp b1 => Sys2Proof.Machine.execAdcZp b1 s
  | .adcImm b1 => Sys2Proof.Machine.execAdcImm b1 s
  | .adcAbs addr => Sys2Proof.Machine.execAdcAbs addr s
  | .adcIndY b1 => Sys2Proof.Machine.execAdcIndY b1 s
  | .adcZpX b1 => Sys2Proof.Machine.execAdcZpX b1 s
  | .adcAbsY addr => Sys2Proof.Machine.execAdcAbsY addr s
  | .adcAbsX addr => Sys2Proof.Machine.execAdcAbsX addr s
  | .sbcIndX b1 => Sys2Proof.Machine.execSbcIndX b1 s
  | .sbcZp b1 => Sys2Proof.Machine.execSbcZp b1 s
  | .sbcImm b1 => Sys2Proof.Machine.execSbcImm b1 s
  | .sbcAbs addr => Sys2Proof.Machine.execSbcAbs addr s
  | .sbcIndY b1 => Sys2Proof.Machine.execSbcIndY b1 s
  | .sbcZpX b1 => Sys2Proof.Machine.execSbcZpX b1 s
  | .sbcAbsY addr => Sys2Proof.Machine.execSbcAbsY addr s
  | .sbcAbsX addr => Sys2Proof.Machine.execSbcAbsX addr s
  | .cmpIndX b1 => Sys2Proof.Machine.execCmpIndX b1 s
  | .cmpZp b1 => Sys2Proof.Machine.execCmpZp b1 s
  | .cmpImm b1 => Sys2Proof.Machine.execCmpImm b1 s
  | .cmpAbs addr => Sys2Proof.Machine.execCmpAbs addr s
  | .cmpIndY b1 => Sys2Proof.Machine.execCmpIndY b1 s
  | .cmpZpX b1 => Sys2Proof.Machine.execCmpZpX b1 s
  | .cmpAbsY addr => Sys2Proof.Machine.execCmpAbsY addr s
  | .cmpAbsX addr => Sys2Proof.Machine.execCmpAbsX addr s
  | .cpxImm b1 => Sys2Proof.Machine.execCpxImm b1 s
  | .cpxZp b1 => Sys2Proof.Machine.execCpxZp b1 s
  | .cpxAbs addr => Sys2Proof.Machine.execCpxAbs addr s
  | .cpyImm b1 => Sys2Proof.Machine.execCpyImm b1 s
  | .cpyZp b1 => Sys2Proof.Machine.execCpyZp b1 s
  | .cpyAbs addr => Sys2Proof.Machine.execCpyAbs addr s
  -- increments, decrements, shifts and rotates
  | .incZp b1 => Sys2Proof.Machine.execIncZp b1 s
  | .incAbs addr => Sys2Proof.Machine.execIncAbs addr s
  | .incZpX b1 => Sys2Proof.Machine.execIncZpX b1 s
  | .incAbsX addr => Sys2Proof.Machine.execIncAbsX addr s
  | .inx => Sys2Proof.Machine.execInx s
  | .iny => Sys2Proof.Machine.execIny s
  | .decZp b1 => Sys2Proof.Machine.execDecZp b1 s
  | .decAbs addr => Sys2Proof.Machine.execDecAbs addr s
  | .decZpX b1 => Sys2Proof.Machine.execDecZpX b1 s
  | .decAbsX addr => Sys2Proof.Machine.execDecAbsX addr s
  | .dex => Sys2Proof.Machine.execDex s
  | .dey => Sys2Proof.Machine.execDey s
  | .aslZp b1 => Sys2Proof.Machine.execAslZp b1 s
  | .aslAcc => Sys2Proof.Machine.execAslAcc s
  | .aslAbs addr => Sys2Proof.Machine.execAslAbs addr s
  | .aslZpX b1 => Sys2Proof.Machine.execAslZpX b1 s
  | .aslAbsX addr => Sys2Proof.Machine.execAslAbsX addr s
  | .lsrZp b1 => Sys2Proof.Machine.execLsrZp b1 s
  | .lsrAcc => Sys2Proof.Machine.execLsrAcc s
  | .lsrAbs addr => Sys2Proof.Machine.execLsrAbs addr s
  | .lsrZpX b1 => Sys2Proof.Machine.execLsrZpX b1 s
  | .lsrAbsX addr => Sys2Proof.Machine.execLsrAbsX addr s
  | .rolZp b1 => Sys2Proof.Machine.execRolZp b1 s
  | .rolAcc => Sys2Proof.Machine.execRolAcc s
  | .rolAbs addr => Sys2Proof.Machine.execRolAbs addr s
  | .rolZpX b1 => Sys2Proof.Machine.execRolZpX b1 s
  | .rolAbsX addr => Sys2Proof.Machine.execRolAbsX addr s
  | .rorZp b1 => Sys2Proof.Machine.execRorZp b1 s
  | .rorAcc => Sys2Proof.Machine.execRorAcc s
  | .rorAbs addr => Sys2Proof.Machine.execRorAbs addr s
  | .rorZpX b1 => Sys2Proof.Machine.execRorZpX b1 s
  | .rorAbsX addr => Sys2Proof.Machine.execRorAbsX addr s
  -- jumps, calls, returns, BRK and branches
  | .jmpAbs addr => Sys2Proof.Machine.execJmpAbs addr s
  | .jmpInd addr => Sys2Proof.Machine.execJmpInd addr s
  | .jsr addr => Sys2Proof.Machine.execJsr addr s
  | .rts => Sys2Proof.Machine.execRts s
  | .rti => Sys2Proof.Machine.execRti s
  | .brk => Sys2Proof.Machine.execBrk s
  | .bcc b1 => Sys2Proof.Machine.execBcc b1 s
  | .bcs b1 => Sys2Proof.Machine.execBcs b1 s
  | .beq b1 => Sys2Proof.Machine.execBeq b1 s
  | .bmi b1 => Sys2Proof.Machine.execBmi b1 s
  | .bne b1 => Sys2Proof.Machine.execBne b1 s
  | .bpl b1 => Sys2Proof.Machine.execBpl b1 s
  | .bvc b1 => Sys2Proof.Machine.execBvc b1 s
  | .bvs b1 => Sys2Proof.Machine.execBvs b1 s
  -- flag instructions and NOP
  | .clc => Sys2Proof.Machine.execClc s
  | .cld => Sys2Proof.Machine.execCld s
  | .cli => Sys2Proof.Machine.execCli s
  | .clv => Sys2Proof.Machine.execClv s
  | .sec => Sys2Proof.Machine.execSec s
  | .sed => Sys2Proof.Machine.execSed s
  | .sei => Sys2Proof.Machine.execSei s
  | .nop => Sys2Proof.Machine.execNop s

end Sys2Proof.Machine
end

