-- ==== Sys2Proof/Machine/Step.lean ====
section
/-! DEFINITION. One step of a consumer: one decode transaction (R73, R234, log 1). -/

namespace Sys2Proof.Machine

/-- Fetches and runs the instruction at the instruction pointer; an opcode without a record is the consumer's policy
(R209). -/
def step (s : State) : Host.Outcome State Fault Refusal :=
  match fetch s with
  | some i => exec i s
  | none => undefinedOpcode (opcodeAt s) s

/-- `s` with the instruction whose bits are `w` stored at the instruction pointer, where `step` fetches (log 9). -/
def State.withFetchWord (s : State) (nbits w : Nat) : State :=
  { s with mem := s.mem.writeBytes s.ip (tableBytes nbits w) }

end Sys2Proof.Machine
end

