-- ==== Sys2Proof/Machine/Assembler.lean ====
section
/-! DEFINITION. Assembler operands (R78), in abstract form: a mnemonic and an operand of one of the thirteen
conventional modes (log 25). Text, and its display, are out of scope (R4). -/

namespace Sys2Proof

open Machine (branchTarget)

/-- The conventional mode an operand is written in (R78). -/
def OperandForm.conventional : OperandForm → ConventionalMode
  | .implied => .implied
  | .accumulator => .accumulator
  | .immediate _ => .immediate
  | .zeroPage _ => .zeroPage
  | .zeroPageX _ => .zeroPageX
  | .zeroPageY _ => .zeroPageY
  | .absolute _ => .absolute
  | .absoluteX _ => .absoluteX
  | .absoluteY _ => .absoluteY
  | .indirectX _ => .indirectX
  | .indirectY _ => .indirectY
  | .relative _ => .relative
  | .indirect _ => .indirect

/-- `dd = (label - (ip + 2)) mod 256`, for a label within -128 to +127 of `ip + 2` (R78). R78 gives the range check no
modulus; DESIGN CHOICE (log 26): the distance is measured mod 65536, as the branch target of R161 is taken, so from `ip`
0x0010 the label 0xFF92 is in range. -/
def displacement (ip label : Addr) : Option Byte :=
  let d := label - (ip + 2)
  if (lowByte d).signExtend 16 = d then some (lowByte d) else none

/-- The operand bytes of an assembler operand of an instruction at `ip`; `$nnnn` is stored low byte first (R78). -/
def OperandForm.bytes (f : OperandForm) (ip : Addr) : Option (List Byte) :=
  match f with
  | .implied => some []
  | .accumulator => some []
  | .immediate nn => some [nn]
  | .zeroPage nn => some [nn]
  | .zeroPageX nn => some [nn]
  | .zeroPageY nn => some [nn]
  | .absolute nnnn => some [lowByte nnnn, highByte nnnn]
  | .absoluteX nnnn => some [lowByte nnnn, highByte nnnn]
  | .absoluteY nnnn => some [lowByte nnnn, highByte nnnn]
  | .indirectX nn => some [nn]
  | .indirectY nn => some [nn]
  | .relative label => (displacement ip label).map fun d => [d]
  | .indirect nnnn => some [lowByte nnnn, highByte nnnn]

/-- The opcode of a mnemonic in a conventional mode, if the table has the row (R70, R71). -/
def opcodeOf (mn : Mnemonic) (c : ConventionalMode) : Option Byte :=
  (romRows.find? fun r => r.mnemonic == mn && r.conventional == c).map RomRow.op

/-- The instruction an assembler line at `ip` stands for. -/
def assemble (ip : Addr) (mn : Mnemonic) (f : OperandForm) : Option Instr :=
  match opcodeOf mn f.conventional, f.bytes ip with
  | some op, some bs =>
    match decode (op :: bs) with
    | .ok (i, []) => some i
    | .ok (_, _ :: _) => none
    | .error _ => none
  | _, _ => none

/-- The assembler operand of an instruction at `ip`, of the conventional mode its row is printed with. -/
def operandForm (ip : Addr) (c : ConventionalMode) : List Byte → Option OperandForm
  | [] =>
    match c with
    | .implied => some .implied
    | .accumulator => some .accumulator
    | _ => none
  | [b1] =>
    match c with
    | .immediate => some (.immediate b1)
    | .zeroPage => some (.zeroPage b1)
    | .zeroPageX => some (.zeroPageX b1)
    | .zeroPageY => some (.zeroPageY b1)
    | .indirectX => some (.indirectX b1)
    | .indirectY => some (.indirectY b1)
    | .relative => some (.relative (branchTarget ip b1))
    | _ => none
  | [b1, b2] =>
    match c with
    | .absolute => some (.absolute (addrOf b1 b2))
    | .absoluteX => some (.absoluteX (addrOf b1 b2))
    | .absoluteY => some (.absoluteY (addrOf b1 b2))
    | .indirect => some (.indirect (addrOf b1 b2))
    | _ => none
  | _ => none

/-- The assembler line of an instruction at `ip`: its row's mnemonic and its operand. -/
def disassemble (ip : Addr) (i : Instr) : Option (Mnemonic × OperandForm) :=
  match rowOf i.opcode with
  | some r => (operandForm ip r.conventional i.operandBytes).map fun f => (r.mnemonic, f)
  | none => none

end Sys2Proof
end

