-- ==== Sys2Proof/Machine/Consumers.lean ====
section
/-! DEFINITION. Several consumers of one table (R24, R38, R39, R217): a list of consumers, whose transactions are
interleaved, each transaction atomic (R36; log 22). The table is the constant `decodeRom6502`, so all of them read
the same one, and none has anything of another's. -/

namespace Sys2Proof.Machine

/-- A consumer after one transaction; one that stops stays as it is. -/
def stepOrStay (s : State) : State :=
  match step s with
  | .next t => t
  | .fault _ => s
  | .refused _ => s

/-- `n` transactions of one consumer. -/
def stepTimes : Nat → State → State
  | 0, s => s
  | n + 1, s => stepTimes n (stepOrStay s)

/-- Consumer `k` makes one transaction; the others do nothing. -/
def stepConsumer (k : Nat) (cs : List State) : List State :=
  cs.modify k stepOrStay

/-- The consumers make transactions in the order a schedule names them. -/
def runSchedule : List Nat → List State → List State
  | [], cs => cs
  | k :: ks, cs => runSchedule ks (stepConsumer k cs)

end Sys2Proof.Machine
end

