-- ==== Sys2Proof/Machine/Sweep.lean ====
section
/-! DEFINITION. The decode sweep: the consumer loop of R73 with execution left out, walking memory linearly
(spec/95_test_vectors.md section 7). -/

namespace Sys2Proof.Machine

/-- Why a sweep ended. -/
inductive SweepStop where
  /-- it made the number of lookups it was given -/
  | done
  /-- it stood on an opcode byte whose lookup is absent -/
  | stoppedAbsent (op : Byte)
  deriving DecidableEq, Repr

/-- A sweep's result: the records met, each with its address, then the last `ip`, then the stop. -/
structure SweepResult where
  trace : List (Addr × DecodeRecord)
  ip : Addr
  stop : SweepStop
  deriving DecidableEq, Repr

/-- `Sweep(M, ip0, n)`: look up the byte at `ip`; if absent, stop; else step to `NextIP` (R73, R15). -/
def sweep (m : Memory) (ip : Addr) : Nat → SweepResult
  | 0 => ⟨[], ip, .done⟩
  | n + 1 =>
    match lookup (m.read ip) with
    | none => ⟨[], ip, .stoppedAbsent (m.read ip)⟩
    | some r =>
      let rest := sweep m (nextIP ip r) n
      ⟨(ip, r) :: rest.trace, rest.ip, rest.stop⟩

end Sys2Proof.Machine
end

