-- ==== Sys2Proof/WellFormed.lean ====
section
/-! DEFINITION. The checks on data that a type cannot make: an entry, a list of entries, a table, a reading of the
output ports. An instruction needs none: the width of every operand is in its type. -/

namespace Sys2Proof

/-- `record.length == 1 + operand_length(record.mode)` for a raw entry (R202). -/
def Entry.wf (e : Entry) : Bool :=
  e.len == 1 + operandLength e.mode

/-- A list `Construct` accepts: every entry consistent (R202) and no two with one key (R201). -/
def entriesWf (es : List Entry) : Bool :=
  es.all Entry.wf && decide (es.map Entry.op).Nodup

/-- Keys strictly rising from `lo`. -/
def Table.wfFrom (lo : Nat) : Table → Bool
  | [] => true
  | r :: T => decide (lo ≤ r.opcode.toNat) && Table.wfFrom (r.opcode.toNat + 1) T

/-- The one form of a table: keys strictly rising, hence no key twice. -/
def Table.wf (T : Table) : Bool :=
  Table.wfFrom 0 T

/-- What the ports can carry (R21, R22): a record's length and mode code with `valid = 1`, or length 0 and mode 0xF
with `valid = 0`; codes 10 to 14 never (R53). -/
def Ports.wf (p : Ports) : Bool :=
  if p.valid = 1#1 then
    match Mode.ofCode p.mode with
    | some m => p.length.toNat == 1 + operandLength m
    | none => false
  else
    p.length == 0#2 && p.mode == 0xF#4

end Sys2Proof
end

