-- ==== Sys2Proof/Safety.lean ====
section
/-! DEFINITION. What counts as a safe state and a safe run of a consumer, in the terms claims use. -/

namespace Sys2Proof.Machine

/-- The record a consumer holds is the ROM's record for the byte on its input port, and never another (R22, R60,
R61). -/
abbrev Coherent (s : State) : Prop :=
  s.received = none ∨ s.received = lookup s.opcodeIn

/-- The invariant of the machine: the memory has its canonical form, and the consumer's record is the ROM's. -/
abbrev Inv (s : State) : Prop :=
  Memory.wf s.mem = true ∧ Coherent s

/-- A run of `n` transactions that meets no stop. -/
def SafeRun (n : Nat) (s : State) : Prop :=
  ∃ t, Sys2Proof.core.run n s = .next t

end Sys2Proof.Machine
end

