-- ==== Sys2Proof/Certificates/Slice0/Obligations.lean ====
section
/-! DEFINITION. The statements for the provers, in the order of spec/: the catalogue, the ROM, the ports, the decoder,
construction, the operands, the instructions, the step, the sweep, several consumers. The definitions under
`Sys2Proof.Claims` write the spec's formulas a second time, in plain numbers, so that a statement does not repeat the
model's own text. -/

namespace Sys2Proof.Claims

open Sys2Proof Sys2Proof.Machine

/-- The byte of `s`'s memory at address `n` mod 65536. -/
def byteAt (s : State) (n : Nat) : Nat :=
  (s.mem.read (BitVec.ofNat 16 n)).toNat

/-- `hi:lo` read from two numbered addresses (R33). -/
def pointerAt (s : State) (lo hi : Nat) : Nat :=
  256 * byteAt s hi + byteAt s lo

/-- R62. -/
def immediate (b1 : Byte) (s : State) : Operand :=
  .immediate b1 (BitVec.ofNat 16 ((s.ip.toNat + 1) % 65536))

/-- R63. -/
def zeroPage (b1 : Byte) (_ : State) : Operand :=
  .memory (BitVec.ofNat 16 b1.toNat)

/-- R64. -/
def zeroPageX (b1 : Byte) (s : State) : Operand :=
  .memory (BitVec.ofNat 16 ((b1.toNat + s.x.toNat) % 256))

/-- R64. -/
def zeroPageY (b1 : Byte) (s : State) : Operand :=
  .memory (BitVec.ofNat 16 ((b1.toNat + s.y.toNat) % 256))

/-- R65. -/
def absolute (addr : Addr) (_ : State) : Operand :=
  .memory addr

/-- R66. -/
def absoluteX (addr : Addr) (s : State) : Operand :=
  .memory (BitVec.ofNat 16 ((addr.toNat + s.x.toNat) % 65536))

/-- R66. -/
def absoluteY (addr : Addr) (s : State) : Operand :=
  .memory (BitVec.ofNat 16 ((addr.toNat + s.y.toNat) % 65536))

/-- R67: `p = (b1 + X) mod 256`, the pointer's high byte at `(p + 1) mod 256`. -/
def indirectX (b1 : Byte) (s : State) : Operand :=
  let p := (b1.toNat + s.x.toNat) % 256
  .memory (BitVec.ofNat 16 (pointerAt s p ((p + 1) % 256)))

/-- R68: the pointer at `b1`, its high byte at `(b1 + 1) mod 256`, then Y. -/
def indirectY (b1 : Byte) (s : State) : Operand :=
  .memory (BitVec.ofNat 16 ((pointerAt s b1.toNat ((b1.toNat + 1) % 256) + s.y.toNat) % 65536))

/-- R69. -/
def implied (_ : State) : Operand :=
  .implied

/-- No control transfer. -/
def sequential (_ : State) : Transfer :=
  .sequential

/-- R161 to R168: target `(ip + 2 + sext_16(b1)) mod 65536`, successor `(ip + 2) mod 65536`. -/
def branch (b1 : Byte) (s : State) : Transfer :=
  .branch (BitVec.ofInt 16 ((s.ip.toNat : Int) + 2 + b1.toInt)) (BitVec.ofNat 16 ((s.ip.toNat + 2) % 65536))

/-- What a family's rule says of one of its rows: the bytes of the instruction begin with `op` and are `len` many;
`Lookup(op)` is the record; the ports carry it; and in EVERY state the instruction completes, with the record
received, the operand and the transfer as given, `ip` at `NextIP`, and every other part of the state (registers,
flags, memory) as it was. -/
def Answers (i : Instr) (bytes : List Byte) (op : Byte) (len : Nat) (m : Mode) (operand : State → Operand)
    (transfer : State → Transfer) : Prop :=
  encode i = bytes ∧ bytes.head? = some op ∧ bytes.length = len ∧
    lookup op = some ⟨op, m⟩ ∧ DecodeRecord.length ⟨op, m⟩ = len ∧
    portsOf op = { valid := 1, length := BitVec.ofNat 2 len, mode := m.code, opcodeOut := op } ∧
    ∀ s : State, exec i s = .next { s with
      opcodeIn := op
      received := some ⟨op, m⟩
      operand := operand s
      transfer := transfer s
      ip := BitVec.ofNat 16 ((s.ip.toNat + len) % 65536) }

/-- A row of format F1 (R58, R59). -/
def AnswersF1 (i : Instr) (op : Byte) (transfer : State → Transfer) : Prop :=
  Answers i [op] op 1 .implied implied transfer

/-- A row of format F2 (R58, R59). -/
def AnswersF2 (i : Instr) (op : Byte) (m : Mode) (b1 : Byte) (operand : State → Operand)
    (transfer : State → Transfer) : Prop :=
  Answers i [op, b1] op 2 m operand transfer

/-- A row of format F3: the low byte of the address lies first (R33, R58, R59). -/
def AnswersF3 (i : Instr) (op : Byte) (m : Mode) (addr : Addr) (operand : State → Operand)
    (transfer : State → Transfer) : Prop :=
  Answers i [op, BitVec.ofNat 8 (addr.toNat % 256), BitVec.ofNat 8 (addr.toNat / 256)] op 3 m operand transfer

/-! The map of R70, transcribed from its cells: mnemonic, mode, length, or nothing for absent. -/

/-- Row `0x` of the map of R70. -/
def map0 : List (Option (Mnemonic × Mode × Nat)) :=
  [some (.brk, .implied, 1), some (.ora, .indirectX, 2), none, none,
    none, some (.ora, .zeroPage, 2), some (.asl, .zeroPage, 2), none,
    some (.php, .implied, 1), some (.ora, .immediate, 2), some (.asl, .implied, 1), none,
    none, some (.ora, .absolute, 3), some (.asl, .absolute, 3), none]

/-- Row `1x` of the map of R70. -/
def map1 : List (Option (Mnemonic × Mode × Nat)) :=
  [some (.bpl, .immediate, 2), some (.ora, .indirectY, 2), none, none,
    none, some (.ora, .zeroPageX, 2), some (.asl, .zeroPageX, 2), none,
    some (.clc, .implied, 1), some (.ora, .absoluteY, 3), none, none,
    none, some (.ora, .absoluteX, 3), some (.asl, .absoluteX, 3), none]

/-- Row `2x` of the map of R70. -/
def map2 : List (Option (Mnemonic × Mode × Nat)) :=
  [some (.jsr, .absolute, 3), some (.and, .indirectX, 2), none, none,
    some (.bit, .zeroPage, 2), some (.and, .zeroPage, 2), some (.rol, .zeroPage, 2), none,
    some (.plp, .implied, 1), some (.and, .immediate, 2), some (.rol, .implied, 1), none,
    some (.bit, .absolute, 3), some (.and, .absolute, 3), some (.rol, .absolute, 3), none]

/-- Row `3x` of the map of R70. -/
def map3 : List (Option (Mnemonic × Mode × Nat)) :=
  [some (.bmi, .immediate, 2), some (.and, .indirectY, 2), none, none,
    none, some (.and, .zeroPageX, 2), some (.rol, .zeroPageX, 2), none,
    some (.sec, .implied, 1), some (.and, .absoluteY, 3), none, none,
    none, some (.and, .absoluteX, 3), some (.rol, .absoluteX, 3), none]

/-- Row `4x` of the map of R70. -/
def map4 : List (Option (Mnemonic × Mode × Nat)) :=
  [some (.rti, .implied, 1), some (.eor, .indirectX, 2), none, none,
    none, some (.eor, .zeroPage, 2), some (.lsr, .zeroPage, 2), none,
    some (.pha, .implied, 1), some (.eor, .immediate, 2), some (.lsr, .implied, 1), none,
    some (.jmp, .absolute, 3), some (.eor, .absolute, 3), some (.lsr, .absolute, 3), none]

/-- Row `5x` of the map of R70. -/
def map5 : List (Option (Mnemonic × Mode × Nat)) :=
  [some (.bvc, .immediate, 2), some (.eor, .indirectY, 2), none, none,
    none, some (.eor, .zeroPageX, 2), some (.lsr, .zeroPageX, 2), none,
    some (.cli, .implied, 1), some (.eor, .absoluteY, 3), none, none,
    none, some (.eor, .absoluteX, 3), some (.lsr, .absoluteX, 3), none]

/-- Row `6x` of the map of R70. -/
def map6 : List (Option (Mnemonic × Mode × Nat)) :=
  [some (.rts, .implied, 1), some (.adc, .indirectX, 2), none, none,
    none, some (.adc, .zeroPage, 2), some (.ror, .zeroPage, 2), none,
    some (.pla, .implied, 1), some (.adc, .immediate, 2), some (.ror, .implied, 1), none,
    some (.jmp, .absolute, 3), some (.adc, .absolute, 3), some (.ror, .absolute, 3), none]

/-- Row `7x` of the map of R70. -/
def map7 : List (Option (Mnemonic × Mode × Nat)) :=
  [some (.bvs, .immediate, 2), some (.adc, .indirectY, 2), none, none,
    none, some (.adc, .zeroPageX, 2), some (.ror, .zeroPageX, 2), none,
    some (.sei, .implied, 1), some (.adc, .absoluteY, 3), none, none,
    none, some (.adc, .absoluteX, 3), some (.ror, .absoluteX, 3), none]

/-- Row `8x` of the map of R70. -/
def map8 : List (Option (Mnemonic × Mode × Nat)) :=
  [none, some (.sta, .indirectX, 2), none, none,
    some (.sty, .zeroPage, 2), some (.sta, .zeroPage, 2), some (.stx, .zeroPage, 2), none,
    some (.dey, .implied, 1), none, some (.txa, .implied, 1), none,
    some (.sty, .absolute, 3), some (.sta, .absolute, 3), some (.stx, .absolute, 3), none]

/-- Row `9x` of the map of R70. -/
def map9 : List (Option (Mnemonic × Mode × Nat)) :=
  [some (.bcc, .immediate, 2), some (.sta, .indirectY, 2), none, none,
    some (.sty, .zeroPageX, 2), some (.sta, .zeroPageX, 2), some (.stx, .zeroPageY, 2), none,
    some (.tya, .implied, 1), some (.sta, .absoluteY, 3), some (.txs, .implied, 1), none,
    none, some (.sta, .absoluteX, 3), none, none]

/-- Row `Ax` of the map of R70. -/
def mapA : List (Option (Mnemonic × Mode × Nat)) :=
  [some (.ldy, .immediate, 2), some (.lda, .indirectX, 2), some (.ldx, .immediate, 2), none,
    some (.ldy, .zeroPage, 2), some (.lda, .zeroPage, 2), some (.ldx, .zeroPage, 2), none,
    some (.tay, .implied, 1), some (.lda, .immediate, 2), some (.tax, .implied, 1), none,
    some (.ldy, .absolute, 3), some (.lda, .absolute, 3), some (.ldx, .absolute, 3), none]

/-- Row `Bx` of the map of R70. -/
def mapB : List (Option (Mnemonic × Mode × Nat)) :=
  [some (.bcs, .immediate, 2), some (.lda, .indirectY, 2), none, none,
    some (.ldy, .zeroPageX, 2), some (.lda, .zeroPageX, 2), some (.ldx, .zeroPageY, 2), none,
    some (.clv, .implied, 1), some (.lda, .absoluteY, 3), some (.tsx, .implied, 1), none,
    some (.ldy, .absoluteX, 3), some (.lda, .absoluteX, 3), some (.ldx, .absoluteY, 3), none]

/-- Row `Cx` of the map of R70. -/
def mapC : List (Option (Mnemonic × Mode × Nat)) :=
  [some (.cpy, .immediate, 2), some (.cmp, .indirectX, 2), none, none,
    some (.cpy, .zeroPage, 2), some (.cmp, .zeroPage, 2), some (.dec, .zeroPage, 2), none,
    some (.iny, .implied, 1), some (.cmp, .immediate, 2), some (.dex, .implied, 1), none,
    some (.cpy, .absolute, 3), some (.cmp, .absolute, 3), some (.dec, .absolute, 3), none]

/-- Row `Dx` of the map of R70. -/
def mapD : List (Option (Mnemonic × Mode × Nat)) :=
  [some (.bne, .immediate, 2), some (.cmp, .indirectY, 2), none, none,
    none, some (.cmp, .zeroPageX, 2), some (.dec, .zeroPageX, 2), none,
    some (.cld, .implied, 1), some (.cmp, .absoluteY, 3), none, none,
    none, some (.cmp, .absoluteX, 3), some (.dec, .absoluteX, 3), none]

/-- Row `Ex` of the map of R70. -/
def mapE : List (Option (Mnemonic × Mode × Nat)) :=
  [some (.cpx, .immediate, 2), some (.sbc, .indirectX, 2), none, none,
    some (.cpx, .zeroPage, 2), some (.sbc, .zeroPage, 2), some (.inc, .zeroPage, 2), none,
    some (.inx, .implied, 1), some (.sbc, .immediate, 2), some (.nop, .implied, 1), none,
    some (.cpx, .absolute, 3), some (.sbc, .absolute, 3), some (.inc, .absolute, 3), none]

/-- Row `Fx` of the map of R70. -/
def mapF : List (Option (Mnemonic × Mode × Nat)) :=
  [some (.beq, .immediate, 2), some (.sbc, .indirectY, 2), none, none,
    none, some (.sbc, .zeroPageX, 2), some (.inc, .zeroPageX, 2), none,
    some (.sed, .implied, 1), some (.sbc, .absoluteY, 3), none, none,
    none, some (.sbc, .absoluteX, 3), some (.inc, .absoluteX, 3), none]

/-- The 256 cells of the map of R70, in opcode order. -/
def romMap : List (Option (Mnemonic × Mode × Nat)) :=
  map0 ++ map1 ++ map2 ++ map3 ++ map4 ++ map5 ++ map6 ++ map7 ++ map8 ++ map9 ++
    mapA ++ mapB ++ mapC ++ mapD ++ mapE ++ mapF

/-- The keys of R72 whose low two bits are not `11` and which are not of the form `x2`. -/
def otherAbsentKeys : List Byte :=
  [0x04, 0x0C, 0x14, 0x1A, 0x1C, 0x34, 0x3A, 0x3C, 0x44, 0x54, 0x5A, 0x5C, 0x64, 0x74, 0x7A, 0x7C, 0x80, 0x89,
    0x9C, 0x9E, 0xD4, 0xDA, 0xDC, 0xF4, 0xFA, 0xFC]

/-- The 256 bytes. -/
def allBytes : List Byte :=
  (List.range 256).map (BitVec.ofNat 8)

/-- How many keys hold a record with a property. -/
def countRecords (f : DecodeRecord → Bool) : Nat :=
  (allBytes.filterMap lookup).countP f

end Sys2Proof.Claims

open Sys2Proof Sys2Proof.Machine Sys2Proof.Claims

/-! ### The catalogue and the ROM -/

/-- R52, R53: the operand byte counts and the port codes of the ten tags, and no other code is a tag. The codes are
the spec's decision D2 and the count of `IndirectX` its inference. -/
def Obligations.ModeCatalogueCountsAndCodes : Prop :=
  allModes.map operandLength = [1, 1, 1, 1, 2, 2, 2, 1, 1, 0] ∧
    allModes.map (fun m => m.code.toNat) = [0, 1, 2, 3, 4, 5, 6, 7, 8, 9] ∧
    (∀ m, m ∈ allModes) ∧ (∀ m, Mode.ofCode m.code = some m) ∧
    (∀ c : BitVec 4, 10 ≤ c.toNat → Mode.ofCode c = none)

/-- R58: the invariant of every record of the ROM, which is also the length its row prints, and the three formats that
follow from it. -/
def Obligations.RomRecordLengthFollowsFromMode : Prop :=
  ∀ (op : Byte) (r : DecodeRecord), lookup op = some r →
    r.length = 1 + operandLength r.mode ∧ (∃ row ∈ romRows, row.op = op ∧ row.mode = r.mode ∧ row.len = r.length) ∧
    (r.length = 1 ↔ r.mode = .implied) ∧
    (r.length = 2 ↔ r.mode ∈ [Mode.immediate, .zeroPage, .zeroPageX, .zeroPageY, .indirectX, .indirectY]) ∧
    (r.length = 3 ↔ r.mode ∈ [Mode.absolute, .absoluteX, .absoluteY])

/-- R60, R70: every cell of the map, with the label of its row; the record's opcode is its key. The rows are the
official list the spec supplies from general knowledge (G1, log 12), with decisions D7 and D9 (logs 13, 14). -/
def Obligations.RomHoldsTheMap : Prop :=
  (∀ op : Byte, romMap[op.toNat]? = some ((lookup op).bind fun r =>
      (rowOf op).map fun row => (row.mnemonic, r.mode, r.length))) ∧
    ∀ (op : Byte) (r : DecodeRecord), lookup op = some r → r.opcode = op

/-- R72: the 105 absent keys, by the regularities the rule gives (an inference of the spec from R70). -/
def Obligations.AbsentKeysAreExactlyTheListed : Prop :=
  (∀ op : Byte, lookup op = none ↔
      (op &&& 3 = 3 ∨ (op &&& 0x0F = 2 ∧ op ≠ 0xA2) ∨ op ∈ otherAbsentKeys)) ∧
    (allBytes.filter fun op => lookup op = none).length = 105

/-- R76 (P6), R80, R5: the counts of the table, by length and by mode, and the number of mnemonics (inferences of the
spec from R70). -/
def Obligations.RomCounts : Prop :=
  decodeRom6502.length = 151 ∧ countRecords (fun _ => true) = 151 ∧
    [1, 2, 3].map (fun n => countRecords fun r => r.length == n) = [29, 74, 48] ∧
    allModes.map (fun m => countRecords fun r => r.mode == m) = [19, 21, 16, 2, 24, 15, 9, 8, 8, 29] ∧
    (romRows.map RomRow.mnemonic).dedup.length = 56

/-- R71: the catalogue tag and the conventional mode differ, by name, for exactly 13 opcodes: the four accumulator
forms, the eight branches and 0x6C (decision D7, log 13; general knowledge). -/
def Obligations.ThirteenRowsTaggedUnconventionally : Prop :=
  ∀ row ∈ romRows,
    (row.conventional = .accumulator ↔ row.op ∈ [0x0A#8, 0x2A, 0x4A, 0x6A]) ∧
    (row.conventional = .relative ↔ row.op ∈ [0x10#8, 0x30, 0x50, 0x70, 0x90, 0xB0, 0xD0, 0xF0]) ∧
    (row.conventional = .indirect ↔ row.op = 0x6C#8) ∧
    (row.conventional = .accumulator → row.mode = .implied) ∧
    (row.conventional = .relative → row.mode = .immediate) ∧
    (row.conventional = .indirect → row.mode = .absolute) ∧
    (row.conventional = .implied → row.mode = .implied) ∧ (row.conventional = .immediate → row.mode = .immediate) ∧
    (row.conventional = .zeroPage → row.mode = .zeroPage) ∧ (row.conventional = .zeroPageX → row.mode = .zeroPageX) ∧
    (row.conventional = .zeroPageY → row.mode = .zeroPageY) ∧ (row.conventional = .absolute → row.mode = .absolute) ∧
    (row.conventional = .absoluteX → row.mode = .absoluteX) ∧ (row.conventional = .absoluteY → row.mode = .absoluteY) ∧
    (row.conventional = .indirectX → row.mode = .indirectX) ∧ (row.conventional = .indirectY → row.mode = .indirectY)

/-! ### The ports -/

/-- R22: the outputs for a record and for absent, whatever state the consumer is in. The values for absent are
decision D3 (log 18). -/
def Obligations.PortsCarryTheLookup : Prop :=
  ∀ s : State,
    (∀ r, lookup s.opcodeIn = some r → s.ports.valid = 1 ∧ s.ports.length.toNat = r.length ∧
      s.ports.mode = r.mode.code ∧ s.ports.opcodeOut = s.opcodeIn) ∧
    (lookup s.opcodeIn = none → s.ports = { valid := 0, length := 0, mode := 0xF, opcodeOut := s.opcodeIn }) ∧
    Ports.wf s.ports = true

/-- R36, R236, D21: a consumer that reads the ports gets the whole record or the explicit absent, never a mixture; with
`valid = 1` it refuses the codes 10 to 15. The reader is the model's (log 18). -/
def Obligations.ReadingThePortsGivesTheLookup : Prop :=
  (∀ op : Byte, Ports.read (portsOf op) = some (lookup op)) ∧
    (∀ p : Ports, p.valid = 1 → 10 ≤ p.mode.toNat → Ports.read p = none) ∧
    (∀ p : Ports, p.valid = 0 → Ports.read p = some none)

/-- R75: a block that stores seven bits a key, or five, drives the same outputs, and the 15-bit word loses nothing (an
inference of the spec from R58 and R60). -/
def Obligations.StoredRomWordsDriveTheSamePorts : Prop :=
  (∀ op : Byte, ports7 op (romWord7 op) = portsOf op ∧ ports5 op (romWord5 op) = portsOf op) ∧
    ∀ p q : Ports, p.pack = q.pack → p = q

/-! ### The decoder and the encoder -/

/-- R59, R73, R74: every instruction, with every operand, is read back from its bytes, whatever follows them. -/
def Obligations.DecodeReadsBackEveryEncoding : Prop :=
  ∀ (i : Instr) (rest : List Byte), decode (encode i ++ rest) = .ok (i, rest)

/-- R59, R73, R74: what is decoded is encoded by exactly the bytes taken, so every byte sequence has one meaning. -/
def Obligations.DecodedBytesAreTheEncoding : Prop :=
  ∀ (bs rest : List Byte) (i : Instr), decode bs = .ok (i, rest) → bs = encode i ++ rest

/-- R72, R73: the decoder refuses a sequence exactly when it is empty, when its first byte has no record, or when fewer
bytes follow than the record asks for, and says which. -/
def Obligations.DecodeRefusesExactlyAbsentAndTruncated : Prop :=
  ∀ (op : Byte) (rest : List Byte),
    (decode (op :: rest) = .error (.absent op) ↔ lookup op = none) ∧
    (decode (op :: rest) = .error (.truncated op) ↔ ∃ r, lookup op = some r ∧ rest.length + 1 < r.length) ∧
    ((∃ i rest', decode (op :: rest) = .ok (i, rest')) ↔ ∃ r, lookup op = some r ∧ r.length ≤ rest.length + 1) ∧
    decode [] = .error .empty

/-- R101 to R183: words written out from the encodings of the six family files decode to their instructions. -/
def Obligations.PublishedWordsDecode : Prop :=
  decodeTableWord 16 0b0001000010101001 = some (.ldaImm 0x10) ∧
    decodeTableWord 24 0b000100100011010010111101 = some (.ldaAbsX 0x1234) ∧
    decodeTableWord 8 0b10011010 = some .txs ∧
    decodeTableWord 16 0b0001000001010001 = some (.eorIndY 0x10) ∧
    decodeTableWord 8 0b01101010 = some .rorAcc ∧
    decodeTableWord 24 0b000100100011010001101100 = some (.jmpInd 0x1234) ∧
    decodeTableWord 16 0b1111101111010000 = some (.bne 0xFB) ∧
    decodeTableWord 8 0b00000000 = some .brk ∧
    decodeTableWord 8 0b11101010 = some .nop ∧
    decodeTableWord 8 0b11111111 = none

/-! ### Construction -/

/-- R204: `Construct(CANON)` succeeds and gives `decode_rom_6502` (an inference of the spec from R70 and R58). -/
def Obligations.ConstructOfCanonIsTheRom : Prop :=
  construct canon = .ok decodeRom6502 ∧ canon.length = 151 ∧ entriesWf canon = true

/-- R201: two entries with one key fail construction, equal entries too, wherever they stand. -/
def Obligations.DuplicateKeyFailsConstruction : Prop :=
  ∀ (pre mid post : List Entry) (e f : Entry), e.op = f.op →
    ∃ err, construct (pre ++ e :: mid ++ f :: post) = .error err

/-- R202: an entry whose length disagrees with its mode fails construction wherever it stands, among them every entry
of length 0 or over 3. -/
def Obligations.LengthModeMismatchFailsConstruction : Prop :=
  (∀ (pre post : List Entry) (e : Entry), e.len ≠ 1 + operandLength e.mode →
      ∃ err, construct (pre ++ e :: post) = .error err) ∧
    ∀ e : Entry, e.len = 0 ∨ 3 < e.len → e.len ≠ 1 + operandLength e.mode

/-- R200, R203, R60: construction succeeds exactly on the well-formed lists, and its table holds exactly the records of
the entries, each under its own key. That the table has its one ascending form (`Table.wf`) is about the model's own form
of a table (log 17). -/
def Obligations.ConstructIsSoundAndComplete : Prop :=
  ∀ es : List Entry,
    ((∃ T, construct es = .ok T) ↔ entriesWf es = true) ∧
    ∀ T, construct es = .ok T → Table.wf T = true ∧
      ∀ k r, Table.get T k = some r ↔ ∃ e ∈ es, e.op = k ∧ r = e.record ∧ r.length = e.len

/-- R200: the result does not depend on the order of a list that passes the checks (an inference of the spec). -/
def Obligations.ConstructIgnoresTheOrderOfAGoodList : Prop :=
  ∀ (es fs : List Entry) (T : Table), es.Perm fs → construct es = .ok T → construct fs = .ok T

/-- R200, R210: the first entry that fails a check ends construction and is the one reported, the length check before
the duplicate check. The order and the diagnostic are decision D10 (log 19). -/
def Obligations.FirstFailingEntryIsReported : Prop :=
  ∀ (pre post : List Entry) (e : Entry) (T : Table), construct pre = .ok T →
    (e.len ≠ 1 + operandLength e.mode →
      construct (pre ++ e :: post) = .error ⟨.lengthModeMismatch, e.op⟩) ∧
    (e.len = 1 + operandLength e.mode → (∃ d ∈ pre, d.op = e.op) →
      construct (pre ++ e :: post) = .error ⟨.duplicateOpcode, e.op⟩)

/-! ### What a tag tells the consumer -/

/-- R62: the operand is the byte after the opcode, at `(ip + 1) mod 65536`, whatever the registers hold. -/
def Obligations.ImmediateOperandIsTheNextByte : Prop :=
  ∀ (b1 b2 : Byte) (s : State),
    resolve .immediate b1 b2 s = .immediate b1 (BitVec.ofNat 16 ((s.ip.toNat + 1) % 65536))

/-- R63: the address is the operand byte, from 0x0000 to 0x00FF, whatever the registers hold. -/
def Obligations.ZeroPageAddressIsTheOperandByte : Prop :=
  ∀ (b1 b2 : Byte) (s : State), ∃ ea : Addr,
    resolve .zeroPage b1 b2 s = .memory ea ∧ ea.toNat = b1.toNat ∧ ea.toNat ≤ 0x00FF

/-- R64: the indexed zero-page addresses are taken mod 256 and never leave the zero page (general knowledge, D17,
log 11). -/
def Obligations.IndexedZeroPageStaysInThePage : Prop :=
  ∀ (b1 b2 : Byte) (s : State), ∃ ex ey : Addr,
    resolve .zeroPageX b1 b2 s = .memory ex ∧ ex.toNat = (b1.toNat + s.x.toNat) % 256 ∧ ex.toNat < 256 ∧
    resolve .zeroPageY b1 b2 s = .memory ey ∧ ey.toNat = (b1.toNat + s.y.toNat) % 256 ∧ ey.toNat < 256

/-- R33, R65, R66: the absolute addresses, low byte first, the index unsigned, the sum mod 65536 (the wrap is general
knowledge, D17, log 11). -/
def Obligations.AbsoluteAddressesAreLittleEndianAndWrap : Prop :=
  ∀ (b1 b2 : Byte) (s : State), ∃ e ex ey : Addr,
    resolve .absolute b1 b2 s = .memory e ∧ e.toNat = b2.toNat * 256 + b1.toNat ∧
    resolve .absoluteX b1 b2 s = .memory ex ∧ ex.toNat = (b2.toNat * 256 + b1.toNat + s.x.toNat) % 65536 ∧
    resolve .absoluteY b1 b2 s = .memory ey ∧ ey.toNat = (b2.toNat * 256 + b1.toNat + s.y.toNat) % 65536

/-- R33, R67, R68: one dereference through the zero page, indexed before it or after it; the pointer's high byte wraps
inside the page (general knowledge, D17, log 11). -/
def Obligations.IndirectAddressesGoThroughTheZeroPage : Prop :=
  ∀ (b1 b2 : Byte) (s : State), ∃ ex ey : Addr,
    resolve .indirectX b1 b2 s = .memory ex ∧
    ex.toNat = pointerAt s ((b1.toNat + s.x.toNat) % 256) ((b1.toNat + s.x.toNat + 1) % 256) ∧
    resolve .indirectY b1 b2 s = .memory ey ∧
    ey.toNat = (pointerAt s b1.toNat ((b1.toNat + 1) % 256) + s.y.toNat) % 65536

/-- R45: the operand bytes a tag looks at, and the further reads it implies: none but for the two indirect tags, and
for those the two bytes of the zero-page pointer. Which two bytes these are is said by R67 and R68, with the wraps inside
the page from general knowledge (PRESUMED, log 11). -/
def Obligations.TagReadsOnlyTheListedBytes : Prop :=
  ∀ (m : Mode) (b1 b2 c1 c2 : Byte) (s : State) (mem : Memory),
    (operandLength m = 0 → resolve m b1 b2 s = resolve m c1 c2 s) ∧
    (operandLength m = 1 → resolve m b1 b2 s = resolve m b1 c2 s) ∧
    (m ≠ .indirectX → m ≠ .indirectY → resolve m b1 b2 { s with mem := mem } = resolve m b1 b2 s) ∧
    ((∀ a : Addr, a.toNat = (b1.toNat + s.x.toNat) % 256 ∨ a.toNat = (b1.toNat + s.x.toNat + 1) % 256 →
        mem.read a = s.mem.read a) →
      resolve .indirectX b1 b2 { s with mem := mem } = resolve .indirectX b1 b2 s) ∧
    ((∀ a : Addr, a.toNat = b1.toNat ∨ a.toNat = (b1.toNat + 1) % 256 → mem.read a = s.mem.read a) →
      resolve .indirectY b1 b2 { s with mem := mem } = resolve .indirectY b1 b2 s)

/-- R15: `NextIP(ip, rec) = (ip + rec.length) mod 65536` for every record of the ROM (the wrap is general knowledge,
D13, log 10). -/
def Obligations.NextIpAddsTheLengthAndWraps : Prop :=
  ∀ (ip : Addr) (op : Byte) (r : DecodeRecord), lookup op = some r →
    (nextIP ip r).toNat = (ip.toNat + r.length) % 65536 ∧ nextIP ip r ≠ ip


/-! ### The instructions

One statement a family: each of its rows answers its record in every state, and changes nothing else. The wraps of
addresses are the spec's, from general knowledge (D13, D17, logs 10, 11), and so are the rows themselves (G1, log 12).
The rules say that the BLOCK writes no register and no flag (R100, R110, R125, R140) and put what the consumer does with
the operand out of scope (R4); that the consumer's registers, flags and memory stay as they were is the model's choice of
leaving execution out (DEDUCED, unsafe, log 1), in every one of these statements.
-/

/-- R101 to R103, `LDA`, `LDX`, `LDY`: 18 rows. That the register loaded stays as it was is the model's choice (log 1). -/
def Obligations.LoadRowsAnswerTheirRecords : Prop :=
  ∀ (b1 : Byte) (addr : Addr),
    AnswersF2 (.ldaIndX b1) 0xA1 .indirectX b1 (indirectX b1) sequential ∧
    AnswersF2 (.ldaZp b1) 0xA5 .zeroPage b1 (zeroPage b1) sequential ∧
    AnswersF2 (.ldaImm b1) 0xA9 .immediate b1 (immediate b1) sequential ∧
    AnswersF3 (.ldaAbs addr) 0xAD .absolute addr (absolute addr) sequential ∧
    AnswersF2 (.ldaIndY b1) 0xB1 .indirectY b1 (indirectY b1) sequential ∧
    AnswersF2 (.ldaZpX b1) 0xB5 .zeroPageX b1 (zeroPageX b1) sequential ∧
    AnswersF3 (.ldaAbsY addr) 0xB9 .absoluteY addr (absoluteY addr) sequential ∧
    AnswersF3 (.ldaAbsX addr) 0xBD .absoluteX addr (absoluteX addr) sequential ∧
    AnswersF2 (.ldxImm b1) 0xA2 .immediate b1 (immediate b1) sequential ∧
    AnswersF2 (.ldxZp b1) 0xA6 .zeroPage b1 (zeroPage b1) sequential ∧
    AnswersF3 (.ldxAbs addr) 0xAE .absolute addr (absolute addr) sequential ∧
    AnswersF2 (.ldxZpY b1) 0xB6 .zeroPageY b1 (zeroPageY b1) sequential ∧
    AnswersF3 (.ldxAbsY addr) 0xBE .absoluteY addr (absoluteY addr) sequential ∧
    AnswersF2 (.ldyImm b1) 0xA0 .immediate b1 (immediate b1) sequential ∧
    AnswersF2 (.ldyZp b1) 0xA4 .zeroPage b1 (zeroPage b1) sequential ∧
    AnswersF3 (.ldyAbs addr) 0xAC .absolute addr (absolute addr) sequential ∧
    AnswersF2 (.ldyZpX b1) 0xB4 .zeroPageX b1 (zeroPageX b1) sequential ∧
    AnswersF3 (.ldyAbsX addr) 0xBC .absoluteX addr (absoluteX addr) sequential

/-- R104 to R106, `STA`, `STX`, `STY`: 13 rows. That memory stays as it was after a store is the model's choice (log 1):
R100 puts what the store does out of scope. -/
def Obligations.StoreRowsAnswerTheirRecords : Prop :=
  ∀ (b1 : Byte) (addr : Addr),
    AnswersF2 (.staIndX b1) 0x81 .indirectX b1 (indirectX b1) sequential ∧
    AnswersF2 (.staZp b1) 0x85 .zeroPage b1 (zeroPage b1) sequential ∧
    AnswersF3 (.staAbs addr) 0x8D .absolute addr (absolute addr) sequential ∧
    AnswersF2 (.staIndY b1) 0x91 .indirectY b1 (indirectY b1) sequential ∧
    AnswersF2 (.staZpX b1) 0x95 .zeroPageX b1 (zeroPageX b1) sequential ∧
    AnswersF3 (.staAbsY addr) 0x99 .absoluteY addr (absoluteY addr) sequential ∧
    AnswersF3 (.staAbsX addr) 0x9D .absoluteX addr (absoluteX addr) sequential ∧
    AnswersF2 (.stxZp b1) 0x86 .zeroPage b1 (zeroPage b1) sequential ∧
    AnswersF3 (.stxAbs addr) 0x8E .absolute addr (absolute addr) sequential ∧
    AnswersF2 (.stxZpY b1) 0x96 .zeroPageY b1 (zeroPageY b1) sequential ∧
    AnswersF2 (.styZp b1) 0x84 .zeroPage b1 (zeroPage b1) sequential ∧
    AnswersF3 (.styAbs addr) 0x8C .absolute addr (absolute addr) sequential ∧
    AnswersF2 (.styZpX b1) 0x94 .zeroPageX b1 (zeroPageX b1) sequential

/-- R111 to R120, the transfers and the stack instructions: 10 rows; TYA is at 0x98 and TXS at 0x9A (decision D9,
log 14). That the registers, S and memory stay as they were after a transfer, a push or a pull is the model's choice
(log 1): R110 puts these out of scope. -/
def Obligations.TransferAndStackRowsAnswerTheirRecords : Prop :=
  AnswersF1 .tax 0xAA sequential ∧
  AnswersF1 .tay 0xA8 sequential ∧
  AnswersF1 .tsx 0xBA sequential ∧
  AnswersF1 .txa 0x8A sequential ∧
  AnswersF1 .txs 0x9A sequential ∧
  AnswersF1 .tya 0x98 sequential ∧
  AnswersF1 .pha 0x48 sequential ∧
  AnswersF1 .php 0x08 sequential ∧
  AnswersF1 .pla 0x68 sequential ∧
  AnswersF1 .plp 0x28 sequential

/-- R126 to R129, `AND`, `EOR`, `ORA`, `BIT`: 26 rows; 0x51 and 0x11 are `IndirectY` (decision D9, log 14).
That the accumulator and the flags stay as they were is the model's choice (log 1): R125 puts the results out of scope. -/
def Obligations.LogicRowsAnswerTheirRecords : Prop :=
  ∀ (b1 : Byte) (addr : Addr),
    AnswersF2 (.andIndX b1) 0x21 .indirectX b1 (indirectX b1) sequential ∧
    AnswersF2 (.andZp b1) 0x25 .zeroPage b1 (zeroPage b1) sequential ∧
    AnswersF2 (.andImm b1) 0x29 .immediate b1 (immediate b1) sequential ∧
    AnswersF3 (.andAbs addr) 0x2D .absolute addr (absolute addr) sequential ∧
    AnswersF2 (.andIndY b1) 0x31 .indirectY b1 (indirectY b1) sequential ∧
    AnswersF2 (.andZpX b1) 0x35 .zeroPageX b1 (zeroPageX b1) sequential ∧
    AnswersF3 (.andAbsY addr) 0x39 .absoluteY addr (absoluteY addr) sequential ∧
    AnswersF3 (.andAbsX addr) 0x3D .absoluteX addr (absoluteX addr) sequential ∧
    AnswersF2 (.eorIndX b1) 0x41 .indirectX b1 (indirectX b1) sequential ∧
    AnswersF2 (.eorZp b1) 0x45 .zeroPage b1 (zeroPage b1) sequential ∧
    AnswersF2 (.eorImm b1) 0x49 .immediate b1 (immediate b1) sequential ∧
    AnswersF3 (.eorAbs addr) 0x4D .absolute addr (absolute addr) sequential ∧
    AnswersF2 (.eorIndY b1) 0x51 .indirectY b1 (indirectY b1) sequential ∧
    AnswersF2 (.eorZpX b1) 0x55 .zeroPageX b1 (zeroPageX b1) sequential ∧
    AnswersF3 (.eorAbsY addr) 0x59 .absoluteY addr (absoluteY addr) sequential ∧
    AnswersF3 (.eorAbsX addr) 0x5D .absoluteX addr (absoluteX addr) sequential ∧
    AnswersF2 (.oraIndX b1) 0x01 .indirectX b1 (indirectX b1) sequential ∧
    AnswersF2 (.oraZp b1) 0x05 .zeroPage b1 (zeroPage b1) sequential ∧
    AnswersF2 (.oraImm b1) 0x09 .immediate b1 (immediate b1) sequential ∧
    AnswersF3 (.oraAbs addr) 0x0D .absolute addr (absolute addr) sequential ∧
    AnswersF2 (.oraIndY b1) 0x11 .indirectY b1 (indirectY b1) sequential ∧
    AnswersF2 (.oraZpX b1) 0x15 .zeroPageX b1 (zeroPageX b1) sequential ∧
    AnswersF3 (.oraAbsY addr) 0x19 .absoluteY addr (absoluteY addr) sequential ∧
    AnswersF3 (.oraAbsX addr) 0x1D .absoluteX addr (absoluteX addr) sequential ∧
    AnswersF2 (.bitZp b1) 0x24 .zeroPage b1 (zeroPage b1) sequential ∧
    AnswersF3 (.bitAbs addr) 0x2C .absolute addr (absolute addr) sequential

/-- R130, R131, `ADC`, `SBC`: 16 rows. That the accumulator and the flags stay as they were is the model's choice (log 1):
R125 puts the results out of scope. -/
def Obligations.ArithmeticRowsAnswerTheirRecords : Prop :=
  ∀ (b1 : Byte) (addr : Addr),
    AnswersF2 (.adcIndX b1) 0x61 .indirectX b1 (indirectX b1) sequential ∧
    AnswersF2 (.adcZp b1) 0x65 .zeroPage b1 (zeroPage b1) sequential ∧
    AnswersF2 (.adcImm b1) 0x69 .immediate b1 (immediate b1) sequential ∧
    AnswersF3 (.adcAbs addr) 0x6D .absolute addr (absolute addr) sequential ∧
    AnswersF2 (.adcIndY b1) 0x71 .indirectY b1 (indirectY b1) sequential ∧
    AnswersF2 (.adcZpX b1) 0x75 .zeroPageX b1 (zeroPageX b1) sequential ∧
    AnswersF3 (.adcAbsY addr) 0x79 .absoluteY addr (absoluteY addr) sequential ∧
    AnswersF3 (.adcAbsX addr) 0x7D .absoluteX addr (absoluteX addr) sequential ∧
    AnswersF2 (.sbcIndX b1) 0xE1 .indirectX b1 (indirectX b1) sequential ∧
    AnswersF2 (.sbcZp b1) 0xE5 .zeroPage b1 (zeroPage b1) sequential ∧
    AnswersF2 (.sbcImm b1) 0xE9 .immediate b1 (immediate b1) sequential ∧
    AnswersF3 (.sbcAbs addr) 0xED .absolute addr (absolute addr) sequential ∧
    AnswersF2 (.sbcIndY b1) 0xF1 .indirectY b1 (indirectY b1) sequential ∧
    AnswersF2 (.sbcZpX b1) 0xF5 .zeroPageX b1 (zeroPageX b1) sequential ∧
    AnswersF3 (.sbcAbsY addr) 0xF9 .absoluteY addr (absoluteY addr) sequential ∧
    AnswersF3 (.sbcAbsX addr) 0xFD .absoluteX addr (absoluteX addr) sequential

/-- R132 to R134, `CMP`, `CPX`, `CPY`: 14 rows. That the flags stay as they were is the model's choice (log 1): R125 puts
them out of scope. -/
def Obligations.CompareRowsAnswerTheirRecords : Prop :=
  ∀ (b1 : Byte) (addr : Addr),
    AnswersF2 (.cmpIndX b1) 0xC1 .indirectX b1 (indirectX b1) sequential ∧
    AnswersF2 (.cmpZp b1) 0xC5 .zeroPage b1 (zeroPage b1) sequential ∧
    AnswersF2 (.cmpImm b1) 0xC9 .immediate b1 (immediate b1) sequential ∧
    AnswersF3 (.cmpAbs addr) 0xCD .absolute addr (absolute addr) sequential ∧
    AnswersF2 (.cmpIndY b1) 0xD1 .indirectY b1 (indirectY b1) sequential ∧
    AnswersF2 (.cmpZpX b1) 0xD5 .zeroPageX b1 (zeroPageX b1) sequential ∧
    AnswersF3 (.cmpAbsY addr) 0xD9 .absoluteY addr (absoluteY addr) sequential ∧
    AnswersF3 (.cmpAbsX addr) 0xDD .absoluteX addr (absoluteX addr) sequential ∧
    AnswersF2 (.cpxImm b1) 0xE0 .immediate b1 (immediate b1) sequential ∧
    AnswersF2 (.cpxZp b1) 0xE4 .zeroPage b1 (zeroPage b1) sequential ∧
    AnswersF3 (.cpxAbs addr) 0xEC .absolute addr (absolute addr) sequential ∧
    AnswersF2 (.cpyImm b1) 0xC0 .immediate b1 (immediate b1) sequential ∧
    AnswersF2 (.cpyZp b1) 0xC4 .zeroPage b1 (zeroPage b1) sequential ∧
    AnswersF3 (.cpyAbs addr) 0xCC .absolute addr (absolute addr) sequential

/-- R141 to R146, the increments and decrements: 12 rows. That memory, X and Y stay as they were is the model's choice
(log 1): R140 puts the read-modify-write out of scope. -/
def Obligations.IncrementDecrementRowsAnswerTheirRecords : Prop :=
  ∀ (b1 : Byte) (addr : Addr),
    AnswersF2 (.incZp b1) 0xE6 .zeroPage b1 (zeroPage b1) sequential ∧
    AnswersF3 (.incAbs addr) 0xEE .absolute addr (absolute addr) sequential ∧
    AnswersF2 (.incZpX b1) 0xF6 .zeroPageX b1 (zeroPageX b1) sequential ∧
    AnswersF3 (.incAbsX addr) 0xFE .absoluteX addr (absoluteX addr) sequential ∧
    AnswersF1 .inx 0xE8 sequential ∧
    AnswersF1 .iny 0xC8 sequential ∧
    AnswersF2 (.decZp b1) 0xC6 .zeroPage b1 (zeroPage b1) sequential ∧
    AnswersF3 (.decAbs addr) 0xCE .absolute addr (absolute addr) sequential ∧
    AnswersF2 (.decZpX b1) 0xD6 .zeroPageX b1 (zeroPageX b1) sequential ∧
    AnswersF3 (.decAbsX addr) 0xDE .absoluteX addr (absoluteX addr) sequential ∧
    AnswersF1 .dex 0xCA sequential ∧
    AnswersF1 .dey 0x88 sequential

/-- R147 to R150, `ASL`, `LSR`, `ROL`, `ROR`: 20 rows, the accumulator forms tagged `Implied` (R55). That memory,
the accumulator and the flags stay as they were is the model's choice (log 1): R140 puts the read-modify-write and the
shifting out of scope. -/
def Obligations.ShiftRotateRowsAnswerTheirRecords : Prop :=
  ∀ (b1 : Byte) (addr : Addr),
    AnswersF2 (.aslZp b1) 0x06 .zeroPage b1 (zeroPage b1) sequential ∧
    AnswersF1 .aslAcc 0x0A sequential ∧
    AnswersF3 (.aslAbs addr) 0x0E .absolute addr (absolute addr) sequential ∧
    AnswersF2 (.aslZpX b1) 0x16 .zeroPageX b1 (zeroPageX b1) sequential ∧
    AnswersF3 (.aslAbsX addr) 0x1E .absoluteX addr (absoluteX addr) sequential ∧
    AnswersF2 (.lsrZp b1) 0x46 .zeroPage b1 (zeroPage b1) sequential ∧
    AnswersF1 .lsrAcc 0x4A sequential ∧
    AnswersF3 (.lsrAbs addr) 0x4E .absolute addr (absolute addr) sequential ∧
    AnswersF2 (.lsrZpX b1) 0x56 .zeroPageX b1 (zeroPageX b1) sequential ∧
    AnswersF3 (.lsrAbsX addr) 0x5E .absoluteX addr (absoluteX addr) sequential ∧
    AnswersF2 (.rolZp b1) 0x26 .zeroPage b1 (zeroPage b1) sequential ∧
    AnswersF1 .rolAcc 0x2A sequential ∧
    AnswersF3 (.rolAbs addr) 0x2E .absolute addr (absolute addr) sequential ∧
    AnswersF2 (.rolZpX b1) 0x36 .zeroPageX b1 (zeroPageX b1) sequential ∧
    AnswersF3 (.rolAbsX addr) 0x3E .absoluteX addr (absoluteX addr) sequential ∧
    AnswersF2 (.rorZp b1) 0x66 .zeroPage b1 (zeroPage b1) sequential ∧
    AnswersF1 .rorAcc 0x6A sequential ∧
    AnswersF3 (.rorAbs addr) 0x6E .absolute addr (absolute addr) sequential ∧
    AnswersF2 (.rorZpX b1) 0x76 .zeroPageX b1 (zeroPageX b1) sequential ∧
    AnswersF3 (.rorAbsX addr) 0x7E .absoluteX addr (absoluteX addr) sequential

/-- R156 to R160, `JMP`, `JSR`, `RTS`, `RTI`, `BRK`: 6 rows, with the addresses their rules name (general knowledge,
log 15; the tag of 0x6C is decision D7, log 13). That the address `BRK` saves is `ip + 2` mod 65536 is the model's
choice (DESIGN CHOICE, log 28), R160 giving the sum no modulus. That `ip` stands at `NextIP` after them, jumps and
returns too, and that S, the flags and memory stay as they were, is the model's choice (log 1): R155 puts pushing and
pulling out of scope, and R15 gives the advance only where control is not transferred. -/
def Obligations.JumpCallReturnRowsAnswerTheirRecords : Prop :=
  ∀ (addr : Addr),
    AnswersF3 (.jmpAbs addr) 0x4C .absolute addr (absolute addr) (fun _ => .jump addr) ∧
    AnswersF3 (.jmpInd addr) 0x6C .absolute addr (absolute addr) (fun s => .jumpIndirect addr (BitVec.ofNat 16
        (pointerAt s addr.toNat (addr.toNat / 256 * 256 + (addr.toNat + 1) % 256)))) ∧
    AnswersF3 (.jsr addr) 0x20 .absolute addr (absolute addr) (fun s => .call addr (BitVec.ofNat 16 ((s.ip.toNat + 2) % 65536))) ∧
    AnswersF1 .rts 0x60 (fun _ => .fromStack) ∧
    AnswersF1 .rti 0x40 (fun _ => .fromStack) ∧
    AnswersF1 .brk 0x00 (fun s => .softwareBreak (BitVec.ofNat 16 ((s.ip.toNat + 2) % 65536)))

/-- R161 to R168, the eight conditional branches, tagged `Immediate` (decision D7, log 13), with the target and the
successor (general knowledge, log 15). That `ip` stands at `NextIP` after a branch, taken or not, is the model's choice
(log 1): R15 gives the advance only where control is not transferred. -/
def Obligations.BranchRowsAnswerTheirRecords : Prop :=
  ∀ (b1 : Byte),
    AnswersF2 (.bcc b1) 0x90 .immediate b1 (immediate b1) (branch b1) ∧
    AnswersF2 (.bcs b1) 0xB0 .immediate b1 (immediate b1) (branch b1) ∧
    AnswersF2 (.beq b1) 0xF0 .immediate b1 (immediate b1) (branch b1) ∧
    AnswersF2 (.bmi b1) 0x30 .immediate b1 (immediate b1) (branch b1) ∧
    AnswersF2 (.bne b1) 0xD0 .immediate b1 (immediate b1) (branch b1) ∧
    AnswersF2 (.bpl b1) 0x10 .immediate b1 (immediate b1) (branch b1) ∧
    AnswersF2 (.bvc b1) 0x50 .immediate b1 (immediate b1) (branch b1) ∧
    AnswersF2 (.bvs b1) 0x70 .immediate b1 (immediate b1) (branch b1)

/-- R176 to R183, the flag instructions and `NOP`: 8 rows. That the flags stay as they were is the model's choice (log 1):
R175 puts their computation out of scope. -/
def Obligations.FlagRowsAndNopAnswerTheirRecords : Prop :=
  AnswersF1 .clc 0x18 sequential ∧
  AnswersF1 .cld 0xD8 sequential ∧
  AnswersF1 .cli 0x58 sequential ∧
  AnswersF1 .clv 0xB8 sequential ∧
  AnswersF1 .sec 0x38 sequential ∧
  AnswersF1 .sed 0xF8 sequential ∧
  AnswersF1 .sei 0x78 sequential ∧
  AnswersF1 .nop 0xEA sequential

/-- R61, R100, R110, R125, R140, R155, R175: EVERY instruction completes in every state; the record it delivers is the
ROM's for its opcode byte, the operand is resolved by the record's mode from its operand bytes, and the pointer moves
to `NextIP`. R15 gives that advance for an instruction that does not transfer control (the wrap is D13, log 10); that it
is made after the control transfers too is the model's choice (log 1). -/
def Obligations.EveryInstructionDeliversTheRomRecord : Prop :=
  ∀ (i : Instr) (s : State), ∃ r t, lookup i.opcode = some r ∧ exec i s = .next t ∧
    t.opcodeIn = i.opcode ∧ t.received = some r ∧ Ports.read t.ports = some (some r) ∧
    t.operand = resolve r.mode (i.operandBytes.getD 0 0) (i.operandBytes.getD 1 0) s ∧
    i.operandBytes.length = operandLength r.mode ∧ t.ip.toNat = (s.ip.toNat + (encode i).length) % 65536

/-- The frame of every instruction: no register, no flag, no parameter and NO BYTE OF MEMORY is changed; what changes
is the input port, what the consumer received and resolved from it, and `ip`. The rules say this of the BLOCK (R12,
R16, R100, R110, R125, R140), that no rule reads or writes A, S and P (R13), and that no mode writes X or Y (R64).
That the consumer's registers, flags and memory stay as they were, after stores, pushes and read-modify-writes too, is
the model's choice of leaving execution out (DEDUCED, unsafe, log 1). -/
def Obligations.InstructionFrame : Prop :=
  ∀ (i : Instr) (s t : State), exec i s = .next t →
    t.a = s.a ∧ t.x = s.x ∧ t.y = s.y ∧ t.sp = s.sp ∧ t.p = s.p ∧ t.policy = s.policy ∧
    ∀ a : Addr, t.mem.read a = s.mem.read a

/-! ### The step -/

/-- R34, R73, R234: when the bytes at the instruction pointer are those of an instruction, the step runs it. That the
bytes of an instruction go on at 0x0000 after 0xFFFF is general knowledge (PRESUMED, log 10). -/
def Obligations.StepRunsTheInstructionAtIp : Prop :=
  ∀ (i : Instr) (s : State), s.mem.readBytes s.ip (encode i).length = encode i →
    fetch s = some i ∧ step s = exec i s

/-- The host's load (log 9): in a memory of canonical form, a word the decoder reads, stored where the step fetches, is
what the next step runs, and no other byte changes. The three bytes lie at `ip` and after it mod 65536 (log 10). -/
def Obligations.FetchWordIsRunNext : Prop :=
  ∀ (s : State) (nbits w : Nat) (i : Instr), Memory.wf s.mem = true → decodeTableWord nbits w = some i →
    step (s.withFetchWord nbits w) = exec i (s.withFetchWord nbits w) ∧
    (s.withFetchWord nbits w).ip = s.ip ∧
    ∀ a : Addr, a ≠ s.ip → a ≠ s.ip + 1 → a ≠ s.ip + 2 →
      (s.withFetchWord nbits w).mem.read a = s.mem.read a

/-- R205, R211: an absent opcode is no error of the block: `valid` is 0, and nothing else happens in it. A consumer
that stops where it is has the byte on its port, no record, and everything else as it was (log 7). -/
def Obligations.AbsentOpcodeIsAnOutcome : Prop :=
  ∀ s : State, lookup (opcodeAt s) = none →
    (portsOf (opcodeAt s)).valid = 0 ∧ Ports.read (portsOf (opcodeAt s)) = some none ∧
    (s.policy = .halt → step s = .next { s with
      opcodeIn := opcodeAt s
      received := none
      operand := .unresolved
      transfer := .sequential })

/-- R209: the consumer's policy on an absent opcode, OPEN in the spec and a parameter here (logs 6, 7, 8). With `fault`
the step faults, with `halt` it stays where it is and does so again, with the alias policy it refuses. -/
def Obligations.UndefinedOpcodePolicyDecidesTheStop : Prop :=
  ∀ s : State, lookup (opcodeAt s) = none →
    (s.policy = .fault → step s = .fault (.undefinedOpcode (opcodeAt s))) ∧
    (s.policy = .unofficialAlias → step s = .refused (.unofficialOpcode (opcodeAt s))) ∧
    (s.policy = .halt → ∃ t, step s = .next t ∧ t.ip = s.ip ∧ t.received = none ∧ step t = .next t)

/-- R206: the block raises nothing: on every legal opcode the step answers a next state, so a step stops only on an
absent opcode. -/
def Obligations.StepStopsOnlyOnAbsentOpcodes : Prop :=
  ∀ s : State,
    (lookup (opcodeAt s) ≠ none → ∃ t, step s = .next t) ∧
    (∀ f, step s = .fault f → lookup (opcodeAt s) = none ∧ f = .undefinedOpcode (opcodeAt s)) ∧
    (∀ r, step s = .refused r → lookup (opcodeAt s) = none ∧ r = .unofficialOpcode (opcodeAt s))

/-- R15, R73, R209: the pointer moves by the length of the ROM's record for the byte it stood on; no length is ever
guessed. That it moves so after control transfers too is the model's choice (log 1), and that a consumer that goes on from
an absent byte, the one that halts, stays at the same address is the model's choice too (DESIGN CHOICE, log 7). -/
def Obligations.PointerNeverMovesByAGuess : Prop :=
  ∀ s t : State, step s = .next t →
    t.opcodeIn = opcodeAt s ∧ t.received = lookup (opcodeAt s) ∧
    (∀ r, lookup (opcodeAt s) = some r → t.ip = nextIP s.ip r) ∧ (lookup (opcodeAt s) = none → t.ip = s.ip)

/-- R32, R237: a step never depends on an earlier input: not on what stood on the port, nor on what was received or
resolved before. -/
def Obligations.StepIgnoresEarlierInputs : Prop :=
  ∀ (s : State) (op : Byte) (r : Option DecodeRecord) (o : Operand) (t : Transfer),
    step { s with opcodeIn := op, received := r, operand := o, transfer := t } = step s

/-- The accumulator, the stack pointer and the flags are neither read nor written by a step: with other values in them
the step does the same and leaves those values. R13 says that no rule of the spec reads or writes them, and R16 that no
operation of the block does so with a flag. That a step of the CONSUMER leaves them as they were (after `LDA`, `PLA`,
`TXS` and `SEC` too) is the model's choice of leaving execution out (DEDUCED, unsafe, log 1). -/
def Obligations.AccumulatorStackPointerAndFlagsUntouched : Prop :=
  ∀ (s : State) (a sp : Byte) (p : Flags),
    step { s with a := a, sp := sp, p := p } =
      match step s with
      | .next t => .next { t with a := a, sp := sp, p := p }
      | .fault f => .fault f
      | .refused r => .refused r

/-- R76 (P3), R61: the block's answer depends on the opcode byte alone: two consumers that stand on equal bytes, in
whatever states, receive the same record and see the same ports. -/
def Obligations.AnswerDependsOnTheByteAlone : Prop :=
  ∀ s s' t t' : State, opcodeAt s = opcodeAt s' → step s = .next t → step s' = .next t' →
    t.received = t'.received ∧ t.ports = t'.ports

/-- Log 4, log 5: the machine after reset meets the invariant. -/
def Obligations.ResetMeetsTheInvariant : Prop :=
  Inv State.reset

/-- R10, R22, R60, R61: every step keeps the invariant: the memory has its canonical form (the model's), and the record
the consumer holds is the ROM's record for the byte on its port. -/
def Obligations.StepKeepsTheInvariant : Prop :=
  ∀ s t : State, Inv s → step s = .next t → Inv t

/-! ### The sweep, several consumers, the assembler -/

/-- R73, R15: the sweep is the run of the machine: where it is done the machine has made the same number of steps and
stands at the same address with its memory as it was; where it stops, a consumer with the policy `fault` (and of that
policy alone this is said) faults on the same byte; and each entry of the trace is the record received at that
address. The sweep walks linearly by its own definition; that the machine's run does so after jumps, calls, returns,
BRK and branches, with memory as it was after stores, is the model's choice (DEDUCED, unsafe, log 1). The wrap of
`NextIP` is log 10. -/
def Obligations.SweepIsTheRunOfTheMachine : Prop :=
  ∀ (n : Nat) (s : State),
    ((sweep s.mem s.ip n).stop = .done →
      ∃ t, Sys2Proof.core.run n s = .next t ∧ t.ip = (sweep s.mem s.ip n).ip ∧ t.mem = s.mem ∧
        (sweep s.mem s.ip n).trace.length = n) ∧
    (∀ op, (sweep s.mem s.ip n).stop = .stoppedAbsent op → s.policy = .fault →
      Sys2Proof.core.run n s = .fault (.undefinedOpcode op)) ∧
    ∀ (k : Nat) (a : Addr) (r : DecodeRecord), (sweep s.mem s.ip n).trace[k]? = some (a, r) →
      ∃ t u, Sys2Proof.core.run k s = .next t ∧ t.ip = a ∧ step t = .next u ∧ u.received = some r

/-- R38, R39, R217: several consumers of one table, their transactions interleaved in any order (the interleaving is
the model's, log 22). Each consumer ends as if it had made its own transactions alone; each keeps the invariant; one
that stood on a legal opcode and has had a turn holds `Lookup` of the byte on its own port, with its memory as it was
(after stores too, which is the model's choice of leaving execution out, DEDUCED, unsafe, log 1); and any two records
received for one byte, by any consumers, the second at any later time too, are the ROM's and so the same (R39 a). -/
def Obligations.ConsumersDoNotInteract : Prop :=
  ∀ (schedule : List Nat) (cs : List State), (∀ c ∈ cs, Inv c) →
    ∀ (k : Nat) (s t : State), cs[k]? = some s → (runSchedule schedule cs)[k]? = some t →
      t = stepTimes (schedule.count k) s ∧ Inv t ∧
      (k ∈ schedule → lookup (opcodeAt s) ≠ none → t.received = lookup t.opcodeIn ∧ t.mem = s.mem) ∧
      ∀ (later : List Nat) (j : Nat) (u : State) (r q : DecodeRecord),
        (runSchedule (schedule ++ later) cs)[j]? = some u → t.received = some r → u.received = some q →
        t.opcodeIn = u.opcodeIn → lookup t.opcodeIn = some r ∧ q = r

/-- R78: every instruction has an assembler line at every address, and that line assembles to it (general knowledge,
log 25). For a branch whose target lies across the ends of the address space this holds by the range check mod 65536,
which is the model's choice (DESIGN CHOICE, unsafe, log 26). -/
def Obligations.AssemblingTheDisassemblyGivesTheInstruction : Prop :=
  ∀ (ip : Addr) (i : Instr), ∃ mn f, disassemble ip i = some (mn, f) ∧ assemble ip mn f = some i

/-- R78, R161: a label has a displacement exactly when it lies within -128 to +127 of `ip + 2`, and then the branch
with that displacement goes to it (general knowledge, logs 15, 25). That the range is measured mod 65536, across the ends
of the address space too, is the model's choice (log 26). -/
def Obligations.DisplacementReachesExactlyTheLabelsInRange : Prop :=
  ∀ (ip label : Addr) (d : Byte),
    (displacement ip label = some d ↔ branchTarget ip d = label) ∧
    ((∃ e, displacement ip label = some e) ↔
      ∃ k : Int, -128 ≤ k ∧ k ≤ 127 ∧ label = BitVec.ofInt 16 ((ip.toNat : Int) + 2 + k))
end

