-- ==== Sys2Proof/Laws/Decode.lean ====
section
/-! SUPPORT. Small laws of the catalogue, the byte order, the table and the decoder. -/

namespace Sys2Proof

theorem operandLength_le (m : Mode) : operandLength m ≤ 2 := by
  cases m <;> decide

theorem mem_allModes (m : Mode) : m ∈ allModes := by
  cases m <;> decide

/-- `b2:b1 = b2 * 256 + b1` (R6, R33). -/
theorem addrOf_toNat (b1 b2 : Byte) : (addrOf b1 b2).toNat = b2.toNat * 256 + b1.toNat := by
  rw [addrOf, BitVec.toNat_append, ← Nat.shiftLeft_add_eq_or_of_lt b1.isLt, Nat.shiftLeft_eq]

@[simp] theorem addrOf_bytes (a : Addr) : addrOf (lowByte a) (highByte a) = a := by
  apply BitVec.eq_of_toNat_eq
  rw [addrOf_toNat, lowByte, highByte, BitVec.toNat_setWidth, BitVec.toNat_setWidth, BitVec.toNat_ushiftRight,
    Nat.shiftRight_eq_div_pow]
  have := a.isLt
  omega

@[simp] theorem lowByte_addrOf (b1 b2 : Byte) : lowByte (addrOf b1 b2) = b1 := by
  apply BitVec.eq_of_toNat_eq
  rw [lowByte, BitVec.toNat_setWidth, addrOf_toNat]
  have := b1.isLt
  omega

@[simp] theorem highByte_addrOf (b1 b2 : Byte) : highByte (addrOf b1 b2) = b2 := by
  apply BitVec.eq_of_toNat_eq
  rw [highByte, BitVec.toNat_setWidth, BitVec.toNat_ushiftRight, addrOf_toNat, Nat.shiftRight_eq_div_pow]
  have := b1.isLt
  have := b2.isLt
  omega

/-- A record a table answers stands in the table, under its own key. -/
theorem Table.get_eq_some {T : Table} {k : Byte} {r : DecodeRecord} (h : Table.get T k = some r) :
    r ∈ T ∧ r.opcode = k :=
  ⟨List.mem_of_find?_eq_some h, by simpa using List.find?_some h⟩

theorem Table.get_eq_none {T : Table} {k : Byte} :
    Table.get T k = none ↔ ∀ r ∈ T, r.opcode ≠ k := by
  simp [Table.get]

/-- The record `Lookup` answers carries the opcode it was asked for. -/
theorem lookup_opcode {op : Byte} {r : DecodeRecord} (h : lookup op = some r) : r.opcode = op :=
  (Table.get_eq_some h).2

/-- The decoder, one byte known. -/
theorem decode_cons (op : Byte) (rest : List Byte) :
    decode (op :: rest) =
      match formOf op with
      | some f => f.build op rest
      | none => .error (.absent op) := rfl

/-- The bytes of an instruction are its opcode and its operand bytes. -/
theorem encode_eq (i : Instr) : encode i = i.opcode :: i.operandBytes := by
  cases i <;> rfl

/-- A form builds only instructions whose encoding is the opcode followed by the operand bytes it was built from. -/
def Form.Encodes (op : Byte) : Form → Prop
  | .f1 i => encode i = [op]
  | .f2 mk => ∀ b1, encode (mk b1) = [op, b1]
  | .f3 mk => ∀ b1 b2, encode (mk (addrOf b1 b2)) = [op, b1, b2]

theorem Form.encodes_f3 {op : Byte} {mk : Addr → Instr} (h : ∀ a, encode (mk a) = [op, lowByte a, highByte a]) :
    Form.Encodes op (.f3 mk) := fun b1 b2 => by
  rw [h, lowByte_addrOf, highByte_addrOf]

theorem forms0_encode : ∀ p ∈ forms0, p.2.Encodes p.1 := by
  unfold forms0
  repeat' first | exact List.forall_mem_nil _ | refine List.forall_mem_cons.2 ⟨?_, ?_⟩ | exact rfl | exact fun _ => rfl |
    exact Form.encodes_f3 fun _ => rfl

theorem forms1_encode : ∀ p ∈ forms1, p.2.Encodes p.1 := by
  unfold forms1
  repeat' first | exact List.forall_mem_nil _ | refine List.forall_mem_cons.2 ⟨?_, ?_⟩ | exact rfl | exact fun _ => rfl |
    exact Form.encodes_f3 fun _ => rfl

theorem forms2_encode : ∀ p ∈ forms2, p.2.Encodes p.1 := by
  unfold forms2
  repeat' first | exact List.forall_mem_nil _ | refine List.forall_mem_cons.2 ⟨?_, ?_⟩ | exact rfl | exact fun _ => rfl |
    exact Form.encodes_f3 fun _ => rfl

theorem forms3_encode : ∀ p ∈ forms3, p.2.Encodes p.1 := by
  unfold forms3
  repeat' first | exact List.forall_mem_nil _ | refine List.forall_mem_cons.2 ⟨?_, ?_⟩ | exact rfl | exact fun _ => rfl |
    exact Form.encodes_f3 fun _ => rfl

theorem forms4_encode : ∀ p ∈ forms4, p.2.Encodes p.1 := by
  unfold forms4
  repeat' first | exact List.forall_mem_nil _ | refine List.forall_mem_cons.2 ⟨?_, ?_⟩ | exact rfl | exact fun _ => rfl |
    exact Form.encodes_f3 fun _ => rfl

theorem forms5_encode : ∀ p ∈ forms5, p.2.Encodes p.1 := by
  unfold forms5
  repeat' first | exact List.forall_mem_nil _ | refine List.forall_mem_cons.2 ⟨?_, ?_⟩ | exact rfl | exact fun _ => rfl |
    exact Form.encodes_f3 fun _ => rfl

theorem forms6_encode : ∀ p ∈ forms6, p.2.Encodes p.1 := by
  unfold forms6
  repeat' first | exact List.forall_mem_nil _ | refine List.forall_mem_cons.2 ⟨?_, ?_⟩ | exact rfl | exact fun _ => rfl |
    exact Form.encodes_f3 fun _ => rfl

theorem forms7_encode : ∀ p ∈ forms7, p.2.Encodes p.1 := by
  unfold forms7
  repeat' first | exact List.forall_mem_nil _ | refine List.forall_mem_cons.2 ⟨?_, ?_⟩ | exact rfl | exact fun _ => rfl |
    exact Form.encodes_f3 fun _ => rfl

theorem forms8_encode : ∀ p ∈ forms8, p.2.Encodes p.1 := by
  unfold forms8
  repeat' first | exact List.forall_mem_nil _ | refine List.forall_mem_cons.2 ⟨?_, ?_⟩ | exact rfl | exact fun _ => rfl |
    exact Form.encodes_f3 fun _ => rfl

theorem forms9_encode : ∀ p ∈ forms9, p.2.Encodes p.1 := by
  unfold forms9
  repeat' first | exact List.forall_mem_nil _ | refine List.forall_mem_cons.2 ⟨?_, ?_⟩ | exact rfl | exact fun _ => rfl |
    exact Form.encodes_f3 fun _ => rfl

theorem formsA_encode : ∀ p ∈ formsA, p.2.Encodes p.1 := by
  unfold formsA
  repeat' first | exact List.forall_mem_nil _ | refine List.forall_mem_cons.2 ⟨?_, ?_⟩ | exact rfl | exact fun _ => rfl |
    exact Form.encodes_f3 fun _ => rfl

theorem formsB_encode : ∀ p ∈ formsB, p.2.Encodes p.1 := by
  unfold formsB
  repeat' first | exact List.forall_mem_nil _ | refine List.forall_mem_cons.2 ⟨?_, ?_⟩ | exact rfl | exact fun _ => rfl |
    exact Form.encodes_f3 fun _ => rfl

theorem formsC_encode : ∀ p ∈ formsC, p.2.Encodes p.1 := by
  unfold formsC
  repeat' first | exact List.forall_mem_nil _ | refine List.forall_mem_cons.2 ⟨?_, ?_⟩ | exact rfl | exact fun _ => rfl |
    exact Form.encodes_f3 fun _ => rfl

theorem formsD_encode : ∀ p ∈ formsD, p.2.Encodes p.1 := by
  unfold formsD
  repeat' first | exact List.forall_mem_nil _ | refine List.forall_mem_cons.2 ⟨?_, ?_⟩ | exact rfl | exact fun _ => rfl |
    exact Form.encodes_f3 fun _ => rfl

theorem formsE_encode : ∀ p ∈ formsE, p.2.Encodes p.1 := by
  unfold formsE
  repeat' first | exact List.forall_mem_nil _ | refine List.forall_mem_cons.2 ⟨?_, ?_⟩ | exact rfl | exact fun _ => rfl |
    exact Form.encodes_f3 fun _ => rfl

theorem formsF_encode : ∀ p ∈ formsF, p.2.Encodes p.1 := by
  unfold formsF
  repeat' first | exact List.forall_mem_nil _ | refine List.forall_mem_cons.2 ⟨?_, ?_⟩ | exact rfl | exact fun _ => rfl |
    exact Form.encodes_f3 fun _ => rfl

/-- Every form of the decoder's table encodes what it builds, under the opcode it stands at. -/
theorem forms_encode : ∀ p ∈ forms, p.2.Encodes p.1 := by
  intro p hp
  obtain ⟨l, hl, hp⟩ := List.mem_flatten.1 hp
  simp only [List.mem_cons, List.not_mem_nil, or_false] at hl
  rcases hl with rfl | rfl | rfl | rfl | rfl | rfl | rfl | rfl | rfl | rfl | rfl | rfl | rfl | rfl | rfl | rfl
  exacts [forms0_encode p hp, forms1_encode p hp, forms2_encode p hp, forms3_encode p hp,
    forms4_encode p hp, forms5_encode p hp, forms6_encode p hp, forms7_encode p hp,
    forms8_encode p hp, forms9_encode p hp, formsA_encode p hp, formsB_encode p hp,
    formsC_encode p hp, formsD_encode p hp, formsE_encode p hp, formsF_encode p hp]

/-- The form of an opcode encodes what it builds. -/
theorem formOf_encode {op : Byte} {f : Form} (h : formOf op = some f) : f.Encodes op := by
  obtain ⟨p, hp, rfl⟩ := Option.map_eq_some_iff.1 h
  have hop : p.1 = op := by simpa using List.find?_some hp
  exact hop ▸ forms_encode p (List.mem_of_find?_eq_some hp)

end Sys2Proof
end

