-- ==== Sys2Proof/Laws/Construct.lean ====
section
/-! SUPPORT. What one turn of the construction loop can do, and what storing a record does to a table. -/

namespace Sys2Proof

/-- Everything a turn of the loop can do: report a length that disagrees, report a key that is taken, or store the
entry's record. -/
theorem constructStep_cases (T : Table) (e : Entry) :
    (e.len ≠ 1 + operandLength e.mode ∧ constructStep T e = .error ⟨.lengthModeMismatch, e.op⟩) ∨
    (e.len = 1 + operandLength e.mode ∧ (∃ r, Table.get T e.op = some r) ∧
      constructStep T e = .error ⟨.duplicateOpcode, e.op⟩) ∨
    (e.len = 1 + operandLength e.mode ∧ Table.get T e.op = none ∧
      constructStep T e = .ok (Table.insert e.record T)) := by
  unfold constructStep
  by_cases h : e.len = 1 + operandLength e.mode
  · rw [if_neg (by simpa using h)]
    cases hg : Table.get T e.op with
    | none => exact .inr (.inr ⟨h, rfl, rfl⟩)
    | some r => exact .inr (.inl ⟨h, ⟨r, rfl⟩, rfl⟩)
  · exact .inl ⟨h, if_pos h⟩

/-- Construction over a longer list goes on from where the shorter one ended. -/
theorem constructFrom_append (T : Table) (es fs : List Entry) :
    constructFrom T (es ++ fs) =
      match constructFrom T es with
      | .ok T' => constructFrom T' fs
      | .error err => .error err := by
  induction es generalizing T with
  | nil => rfl
  | cons e es ih =>
    simp only [List.cons_append, constructFrom]
    cases constructStep T e with
    | ok T' => exact ih T'
    | error err => rfl

theorem Table.mem_insert {q r : DecodeRecord} {T : Table} :
    q ∈ Table.insert r T ↔ q = r ∨ q ∈ T := by
  induction T with
  | nil => simp [Table.insert]
  | cons p T ih =>
    unfold Table.insert
    split
    · simp
    · simp only [List.mem_cons, ih]
      tauto

/-- Storing a record under a free key: that key now holds it, and every other key what it held. -/
theorem Table.get_insert {r : DecodeRecord} {T : Table} (h : Table.get T r.opcode = none) (k : Byte) :
    Table.get (Table.insert r T) k = if r.opcode = k then some r else Table.get T k := by
  induction T with
  | nil => by_cases hk : r.opcode = k <;> simp [Table.insert, Table.get, hk]
  | cons p T ih =>
    have hp : p.opcode ≠ r.opcode := Table.get_eq_none.1 h p (by simp)
    have hT : Table.get T r.opcode = none := Table.get_eq_none.2 fun q hq => Table.get_eq_none.1 h q (by simp [hq])
    unfold Table.insert
    split
    · by_cases hk : r.opcode = k <;> simp [Table.get, hk]
    · by_cases hpk : p.opcode = k
      · have hrk : r.opcode ≠ k := fun h' => hp (hpk.trans h'.symm)
        simp [Table.get, hpk, hrk]
      · have := ih hT
        simp only [Table.get] at this
        simp [Table.get, hpk, this]

/-- Storing a record under a free key keeps the keys rising. -/
theorem Table.wfFrom_insert {r : DecodeRecord} {T : Table} {lo : Nat} (hT : Table.wfFrom lo T = true)
    (hlo : lo ≤ r.opcode.toNat) (h : Table.get T r.opcode = none) : Table.wfFrom lo (Table.insert r T) = true := by
  induction T generalizing lo with
  | nil => simp [Table.insert, Table.wfFrom, hlo]
  | cons p T ih =>
    have hp : p.opcode ≠ r.opcode := Table.get_eq_none.1 h p (by simp)
    have hne : p.opcode.toNat ≠ r.opcode.toNat := fun e => hp (BitVec.eq_of_toNat_eq e)
    have hr : Table.get T r.opcode = none := Table.get_eq_none.2 fun q hq => Table.get_eq_none.1 h q (by simp [hq])
    simp only [Table.wfFrom, Bool.and_eq_true, decide_eq_true_eq] at hT
    unfold Table.insert
    split
    · simp only [Table.wfFrom, Bool.and_eq_true, decide_eq_true_eq]
      exact ⟨hlo, by omega, hT.2⟩
    · simp only [Table.wfFrom, Bool.and_eq_true, decide_eq_true_eq]
      exact ⟨hT.1, ih hT.2 (by omega) hr⟩

@[simp] theorem tableOf_eq (es : List Entry) (T : Table) (h : construct es = .ok T) : tableOf es T h = T := rfl

/-- The ROM as the list its construction gave. -/
theorem decodeRom6502_eq : decodeRom6502 = canon.map Entry.record := rfl

end Sys2Proof
end

