-- ==== Sys2Proof/Laws/Consumers.lean ====
section
/-! SUPPORT. The small laws of several consumers: what one transaction does to the list of them, and that schedules
follow one another. -/

namespace Sys2Proof.Machine

/-- One transaction changes the consumer that makes it and no other. -/
@[simp] theorem getElem?_stepConsumer (j k : Nat) (cs : List State) :
    (stepConsumer j cs)[k]? = if j = k then (cs[k]?).map stepOrStay else cs[k]? := by
  unfold stepConsumer
  rw [List.getElem?_modify]
  split <;> simp

@[simp] theorem runSchedule_nil (cs : List State) : runSchedule [] cs = cs := rfl

@[simp] theorem runSchedule_cons (k : Nat) (ks : List Nat) (cs : List State) :
    runSchedule (k :: ks) cs = runSchedule ks (stepConsumer k cs) := rfl

theorem runSchedule_append (ks js : List Nat) (cs : List State) :
    runSchedule (ks ++ js) cs = runSchedule js (runSchedule ks cs) := by
  induction ks generalizing cs with
  | nil => rfl
  | cons k ks ih => exact ih _

/-- A consumer that is not stopped is where its step leaves it; one that is stopped has not moved. -/
theorem stepOrStay_cases (s : State) : step s = .next (stepOrStay s) ∨ stepOrStay s = s := by
  unfold stepOrStay
  cases step s with
  | next t => exact .inl rfl
  | fault f => exact .inr rfl
  | refused r => exact .inr rfl

end Sys2Proof.Machine
end

