-- ==== Sys2Proof/Laws/Memory.lean ====
section
/-! SUPPORT. Memory: a read after a write, what a write leaves alone, and that every operation keeps the canonical
form, in which equal memories are equal lists. -/

namespace Sys2Proof.Machine

@[simp] theorem Memory.readAt_nil (n : Nat) : Memory.readAt [] n = unlisted := rfl

theorem Memory.readAt_cons (k : Nat) (v : Byte) (m : Memory) (n : Nat) :
    Memory.readAt ((k, v) :: m) n = if k = n then v else Memory.readAt m n := rfl

/-- A canonical memory from `lo` on lists nothing below `lo`. -/
theorem Memory.readAt_of_lt {m : Memory} {lo n : Nat} (h : Memory.wfFrom lo m = true) (hn : n < lo) :
    Memory.readAt m n = unlisted := by
  induction m generalizing lo with
  | nil => rfl
  | cons c m ih =>
    obtain ⟨k, v⟩ := c
    simp only [Memory.wfFrom, Bool.and_eq_true, decide_eq_true_eq] at h
    obtain ⟨⟨⟨hk, -⟩, -⟩, hm⟩ := h
    rw [Memory.readAt_cons, if_neg (by omega), ih hm (by omega)]

/-- Reading where a byte was put before `m`, when `m` lists nothing there. -/
theorem Memory.readAt_put {n : Nat} {v : Byte} {m : Memory} (h : Memory.readAt m n = unlisted) (k : Nat) :
    Memory.readAt (Memory.cons n v m) k = if n = k then v else Memory.readAt m k := by
  unfold Memory.cons
  split
  · next hv =>
    split
    · next hk => rw [hv, ← hk, h]
    · rfl
  · rfl

theorem Memory.wfFrom_mono {m : Memory} {lo lo' : Nat} (h : Memory.wfFrom lo m = true) (hl : lo' ≤ lo) :
    Memory.wfFrom lo' m = true := by
  cases m with
  | nil => rfl
  | cons c m =>
    obtain ⟨k, v⟩ := c
    simp only [Memory.wfFrom, Bool.and_eq_true, decide_eq_true_eq] at h ⊢
    exact ⟨⟨⟨by omega, h.1.1.2⟩, h.1.2⟩, h.2⟩

theorem Memory.readAt_writeAt {m : Memory} {lo : Nat} (h : Memory.wfFrom lo m = true) (n k : Nat) (v : Byte) :
    Memory.readAt (Memory.writeAt n v m) k = if n = k then v else Memory.readAt m k := by
  induction m generalizing lo with
  | nil => exact Memory.readAt_put rfl k
  | cons c m ih =>
    obtain ⟨q, w⟩ := c
    have hw := h
    simp only [Memory.wfFrom, Bool.and_eq_true, decide_eq_true_eq] at h
    obtain ⟨-, hm⟩ := h
    unfold Memory.writeAt
    split
    · next hlt =>
      have hc : Memory.wfFrom q ((q, w) :: m) = true := by
        simp only [Memory.wfFrom, Bool.and_eq_true, decide_eq_true_eq] at hw ⊢
        exact ⟨⟨⟨Nat.le_refl q, hw.1.1.2⟩, hw.1.2⟩, hw.2⟩
      exact Memory.readAt_put (Memory.readAt_of_lt hc hlt) k
    · split
      · next heq =>
        subst heq
        rw [Memory.readAt_put (Memory.readAt_of_lt hm (by omega)), Memory.readAt_cons]
        split <;> rfl
      · next hne =>
        rw [Memory.readAt_cons, Memory.readAt_cons, ih hm]
        by_cases hq : q = k
        · rw [if_pos hq, if_pos hq, if_neg (by omega)]
        · rw [if_neg hq, if_neg hq]

theorem Memory.wfFrom_cons {m : Memory} {n lo : Nat} {v : Byte} (h : Memory.wfFrom (n + 1) m = true)
    (hlo : lo ≤ n) (hn : n < 65536) : Memory.wfFrom lo (Memory.cons n v m) = true := by
  unfold Memory.cons
  split
  · exact Memory.wfFrom_mono h (by omega)
  · next hv => simp [Memory.wfFrom, hlo, hn, hv, h]

theorem Memory.wfFrom_writeAt {m : Memory} {lo n : Nat} (v : Byte) (h : Memory.wfFrom lo m = true)
    (hlo : lo ≤ n) (hn : n < 65536) : Memory.wfFrom lo (Memory.writeAt n v m) = true := by
  induction m generalizing lo with
  | nil => exact Memory.wfFrom_cons rfl hlo hn
  | cons c m ih =>
    obtain ⟨q, w⟩ := c
    have hw := h
    simp only [Memory.wfFrom, Bool.and_eq_true, decide_eq_true_eq] at h
    obtain ⟨⟨⟨hq, hq'⟩, hv⟩, hm⟩ := h
    unfold Memory.writeAt
    split
    · refine Memory.wfFrom_cons ?_ hlo hn
      simp only [Memory.wfFrom, Bool.and_eq_true, decide_eq_true_eq]
      exact ⟨⟨⟨by omega, hq'⟩, hv⟩, hm⟩
    · split
      · next heq => exact Memory.wfFrom_cons (heq ▸ hm) hlo hn
      · simp only [Memory.wfFrom, Bool.and_eq_true, decide_eq_true_eq]
        exact ⟨⟨⟨hq, hq'⟩, hv⟩, ih hm (by omega)⟩

/-- A write keeps the canonical form. -/
theorem Memory.wf_write {m : Memory} (h : m.wf = true) (a : Addr) (v : Byte) : (m.write a v).wf = true :=
  Memory.wfFrom_writeAt v h (Nat.zero_le _) a.isLt

/-- Writing several bytes keeps the canonical form. -/
theorem Memory.wf_writeBytes {m : Memory} (h : m.wf = true) (a : Addr) (bs : List Byte) :
    (m.writeBytes a bs).wf = true := by
  induction bs generalizing m a with
  | nil => exact h
  | cons b bs ih => exact ih (Memory.wf_write h a b) (a + 1)

/-- A byte reads as what was written last at its address, and every other address as before. -/
theorem Memory.read_write {m : Memory} (h : m.wf = true) (a k : Addr) (v : Byte) :
    (m.write a v).read k = if a = k then v else m.read k := by
  rw [Memory.write, Memory.read, Memory.readAt_writeAt h]
  simp only [BitVec.toNat_eq, Memory.read]

/-- Canonical memories that read alike everywhere are the same list. -/
theorem Memory.eq_of_readAt {m m' : Memory} {lo : Nat} (h : Memory.wfFrom lo m = true)
    (h' : Memory.wfFrom lo m' = true) (hr : ∀ n, Memory.readAt m n = Memory.readAt m' n) : m = m' := by
  induction m generalizing m' lo with
  | nil =>
    cases m' with
    | nil => rfl
    | cons c m' =>
      obtain ⟨k, v⟩ := c
      simp only [Memory.wfFrom, Bool.and_eq_true, decide_eq_true_eq] at h'
      exact absurd (by simpa [Memory.readAt_cons] using (hr k).symm) h'.1.2
  | cons c m ih =>
    obtain ⟨k, v⟩ := c
    simp only [Memory.wfFrom, Bool.and_eq_true, decide_eq_true_eq] at h
    cases m' with
    | nil => exact absurd (by simpa [Memory.readAt_cons] using hr k) h.1.2
    | cons c' m' =>
      obtain ⟨k', v'⟩ := c'
      simp only [Memory.wfFrom, Bool.and_eq_true, decide_eq_true_eq] at h'
      have hkk : k = k' := by
        rcases Nat.lt_trichotomy k k' with hlt | heq | hgt
        · have := hr k
          rw [Memory.readAt_cons, if_pos rfl, Memory.readAt_cons, if_neg (by omega),
            Memory.readAt_of_lt h'.2 (by omega)] at this
          exact absurd this h.1.2
        · exact heq
        · have := hr k'
          rw [Memory.readAt_cons, if_neg (by omega), Memory.readAt_of_lt h.2 (by omega), Memory.readAt_cons,
            if_pos rfl] at this
          exact absurd this.symm h'.1.2
      subst hkk
      have hv : v = v' := by simpa [Memory.readAt_cons] using hr k
      subst hv
      rw [ih h.2 h'.2]
      intro n
      by_cases hn : k = n
      · subst hn
        rw [Memory.readAt_of_lt h.2 (by omega), Memory.readAt_of_lt h'.2 (by omega)]
      · simpa [Memory.readAt_cons, hn] using hr n

@[simp] theorem Memory.length_readBytes (m : Memory) (a : Addr) (n : Nat) : (m.readBytes a n).length = n := by
  induction n generalizing a with
  | zero => rfl
  | succ n ih => simp [Memory.readBytes, ih]

end Sys2Proof.Machine
end

