-- ==== Sys2Proof/Laws/Operands.lean ====
section
/-! SUPPORT. The addresses of the operand forms in plain numbers. -/

namespace Sys2Proof.Machine

@[simp] theorem eaZeroPage_toNat (b1 : Byte) : (eaZeroPage b1).toNat = b1.toNat := by
  rw [eaZeroPage, BitVec.toNat_setWidth]
  omega

@[simp] theorem eaZeroPageIndexed_toNat (b1 index : Byte) :
    (eaZeroPageIndexed b1 index).toNat = (b1.toNat + index.toNat) % 256 := by
  rw [eaZeroPageIndexed, BitVec.toNat_setWidth, BitVec.toNat_add]
  omega

@[simp] theorem eaAbsoluteIndexed_toNat (b1 b2 index : Byte) :
    (eaAbsoluteIndexed b1 b2 index).toNat = (b2.toNat * 256 + b1.toNat + index.toNat) % 65536 := by
  rw [eaAbsoluteIndexed, BitVec.toNat_add, addrOf_toNat, BitVec.toNat_setWidth]
  omega

theorem readPointer_toNat (m : Memory) (lo hi : Addr) :
    (m.readPointer lo hi).toNat = 256 * (m.read hi).toNat + (m.read lo).toNat := by
  rw [Memory.readPointer, addrOf_toNat, Nat.mul_comm]

@[simp] theorem nextIP_toNat (ip : Addr) (r : DecodeRecord) :
    (nextIP ip r).toNat = (ip.toNat + r.length) % 65536 := by
  rw [nextIP, BitVec.toNat_add, BitVec.toNat_ofNat]
  omega

/-- The address of an indirect jump's high byte: the low byte of the pointer goes up by one without carry (R156). -/
theorem jumpPointer_toNat (p : Addr) :
    ((p &&& 0xFF00#16) ||| ((p + 1) &&& 0x00FF#16)).toNat = p.toNat / 256 * 256 + (p.toNat + 1) % 256 := by
  have hi : p &&& 0xFF00#16 = p >>> 8 <<< 8 := by
    ext i h
    interval_cases i <;> simp
  have lo : (p + 1) &&& 0x00FF#16 = ((p + 1).setWidth 8).setWidth 16 := by
    ext i h
    interval_cases i <;> simp
  have hb : ((p + 1).setWidth 8).toNat = (p.toNat + 1) % 256 := by
    rw [BitVec.toNat_setWidth, BitVec.toNat_add, show (1 : Addr).toNat = 1 from rfl]
    omega
  have hs : (p >>> 8 <<< 8).toNat = p.toNat / 256 * 256 := by
    rw [BitVec.toNat_shiftLeft, BitVec.toNat_ushiftRight, Nat.shiftRight_eq_div_pow, Nat.shiftLeft_eq]
    have := p.isLt
    omega
  rw [hi, lo, BitVec.toNat_or, hs, BitVec.toNat_setWidth_of_le (by decide), hb]
  exact (Nat.shiftLeft_eq (p.toNat / 256) 8 ▸
    Nat.shiftLeft_add_eq_or_of_lt (show (p.toNat + 1) % 256 < 2 ^ 8 by omega) (p.toNat / 256)).symm

end Sys2Proof.Machine
end

