-- ==== Sys2Proof/Laws/State.lean ====
section
/-! SUPPORT. One lemma per field of State per update of it, true by rfl. -/

namespace Sys2Proof.Machine

section Answered

variable (op : Byte) (m : Mode) (b1 b2 : Byte) (t : Transfer) (s : State)

@[simp] theorem answered_opcodeIn : (answered op m b1 b2 t s).opcodeIn = op := rfl
@[simp] theorem answered_received : (answered op m b1 b2 t s).received = some ⟨op, m⟩ := rfl
@[simp] theorem answered_operand : (answered op m b1 b2 t s).operand = resolve m b1 b2 s := rfl
@[simp] theorem answered_transfer : (answered op m b1 b2 t s).transfer = t := rfl
@[simp] theorem answered_ip : (answered op m b1 b2 t s).ip = nextIP s.ip ⟨op, m⟩ := rfl
@[simp] theorem answered_a : (answered op m b1 b2 t s).a = s.a := rfl
@[simp] theorem answered_x : (answered op m b1 b2 t s).x = s.x := rfl
@[simp] theorem answered_y : (answered op m b1 b2 t s).y = s.y := rfl
@[simp] theorem answered_sp : (answered op m b1 b2 t s).sp = s.sp := rfl
@[simp] theorem answered_p : (answered op m b1 b2 t s).p = s.p := rfl
@[simp] theorem answered_mem : (answered op m b1 b2 t s).mem = s.mem := rfl
@[simp] theorem answered_policy : (answered op m b1 b2 t s).policy = s.policy := rfl

end Answered

section AnsweredAbsent

variable (op : Byte) (s : State)

@[simp] theorem answeredAbsent_opcodeIn : (answeredAbsent op s).opcodeIn = op := rfl
@[simp] theorem answeredAbsent_received : (answeredAbsent op s).received = none := rfl
@[simp] theorem answeredAbsent_operand : (answeredAbsent op s).operand = .unresolved := rfl
@[simp] theorem answeredAbsent_transfer : (answeredAbsent op s).transfer = .sequential := rfl
@[simp] theorem answeredAbsent_ip : (answeredAbsent op s).ip = s.ip := rfl
@[simp] theorem answeredAbsent_a : (answeredAbsent op s).a = s.a := rfl
@[simp] theorem answeredAbsent_x : (answeredAbsent op s).x = s.x := rfl
@[simp] theorem answeredAbsent_y : (answeredAbsent op s).y = s.y := rfl
@[simp] theorem answeredAbsent_sp : (answeredAbsent op s).sp = s.sp := rfl
@[simp] theorem answeredAbsent_p : (answeredAbsent op s).p = s.p := rfl
@[simp] theorem answeredAbsent_mem : (answeredAbsent op s).mem = s.mem := rfl
@[simp] theorem answeredAbsent_policy : (answeredAbsent op s).policy = s.policy := rfl

end AnsweredAbsent

section WithFetchWord

variable (s : State) (nbits w : Nat)

@[simp] theorem withFetchWord_opcodeIn : (s.withFetchWord nbits w).opcodeIn = s.opcodeIn := rfl
@[simp] theorem withFetchWord_received : (s.withFetchWord nbits w).received = s.received := rfl
@[simp] theorem withFetchWord_operand : (s.withFetchWord nbits w).operand = s.operand := rfl
@[simp] theorem withFetchWord_transfer : (s.withFetchWord nbits w).transfer = s.transfer := rfl
@[simp] theorem withFetchWord_ip : (s.withFetchWord nbits w).ip = s.ip := rfl
@[simp] theorem withFetchWord_a : (s.withFetchWord nbits w).a = s.a := rfl
@[simp] theorem withFetchWord_x : (s.withFetchWord nbits w).x = s.x := rfl
@[simp] theorem withFetchWord_y : (s.withFetchWord nbits w).y = s.y := rfl
@[simp] theorem withFetchWord_sp : (s.withFetchWord nbits w).sp = s.sp := rfl
@[simp] theorem withFetchWord_p : (s.withFetchWord nbits w).p = s.p := rfl
@[simp] theorem withFetchWord_mem :
    (s.withFetchWord nbits w).mem = s.mem.writeBytes s.ip (tableBytes nbits w) := rfl
@[simp] theorem withFetchWord_policy : (s.withFetchWord nbits w).policy = s.policy := rfl

end WithFetchWord

end Sys2Proof.Machine
end

