-- ==== Sys2Proof/Laws/Operations.lean ====
section
/-! SUPPORT. What each shared operation of the machine can do, said once: the policy on an absent opcode, the meaning
of an instruction, fetching, and the step. Later proofs cite these and unfold nothing. -/

namespace Sys2Proof.Machine

/-- The policy on an absent opcode: three outcomes, one a policy. -/
theorem undefinedOpcode_cases (op : Byte) (s : State) :
    (s.policy = .halt ∧ undefinedOpcode op s = .next (answeredAbsent op s)) ∨
    (s.policy = .fault ∧ undefinedOpcode op s = .fault (.undefinedOpcode op)) ∨
    (s.policy = .unofficialAlias ∧ undefinedOpcode op s = .refused (.unofficialOpcode op)) := by
  unfold undefinedOpcode
  cases s.policy <;> simp

/-- Every instruction is a transaction answered with a record of the ROM, under its own opcode: the operand bytes
are its own (0 where it has none), and the transfer is what its rule names. -/
theorem exec_answered (i : Instr) (s : State) :
    ∃ m t, lookup i.opcode = some ⟨i.opcode, m⟩ ∧
      exec i s = .next (answered i.opcode m (i.operandBytes.getD 0 0) (i.operandBytes.getD 1 0) t s) := by
  cases i <;> refine ⟨_, _, ?_, rfl⟩ <;>
    (simp only [Instr.opcode, encode, List.headD_cons]; decide +kernel)

/-- The shapes of an opcode: it has no record and no form, or it has a record and a form of the record's length. -/
theorem formOf_cases (op : Byte) :
    (lookup op = none ∧ formOf op = none) ∨
    ∃ r, lookup op = some r ∧
      ((r.length = 1 ∧ ∃ i, formOf op = some (.f1 i)) ∨ (r.length = 2 ∧ ∃ mk, formOf op = some (.f2 mk)) ∨
        (r.length = 3 ∧ ∃ mk, formOf op = some (.f3 mk))) := by
  have key : ∀ n : Fin 256,
      (match lookup (BitVec.ofNat 8 n), formOf (BitVec.ofNat 8 n) with
        | none, none => true
        | some r, some (.f1 _) => decide (r.length = 1)
        | some r, some (.f2 _) => decide (r.length = 2)
        | some r, some (.f3 _) => decide (r.length = 3)
        | _, _ => false) = true := by decide +kernel
  have h := key ⟨op.toNat, op.isLt⟩
  rw [show BitVec.ofNat 8 (⟨op.toNat, op.isLt⟩ : Fin 256) = op from BitVec.eq_of_toNat_eq (by simp)] at h
  revert h
  cases lookup op with
  | none =>
    cases formOf op with
    | none => exact fun _ => .inl ⟨rfl, rfl⟩
    | some f => cases f <;> simp
  | some r =>
    cases formOf op with
    | none => simp
    | some f => cases f <;> simp

/-- Decoding as many bytes as the record says succeeds, and takes them all. -/
theorem decode_of_record {op : Byte} {r : DecodeRecord} (h : lookup op = some r) {rest : List Byte}
    (hl : rest.length + 1 = r.length) : ∃ i, decode (op :: rest) = .ok (i, []) := by
  rcases formOf_cases op with ⟨hn, -⟩ | ⟨r', hr', hf⟩
  · simp [hn] at h
  · obtain rfl : r = r' := by rw [h] at hr'; exact Option.some.inj hr'
    rcases hf with ⟨hlen, i, hi⟩ | ⟨hlen, mk, hi⟩ | ⟨hlen, mk, hi⟩
    · obtain rfl : rest = [] := List.length_eq_zero_iff.1 (by omega)
      exact ⟨i, by rw [decode_cons, hi]; rfl⟩
    · obtain ⟨b, rfl⟩ := List.length_eq_one_iff.1 (show rest.length = 1 by omega)
      exact ⟨mk b, by rw [decode_cons, hi]; rfl⟩
    · obtain ⟨b, c, rfl⟩ := List.length_eq_two.1 (show rest.length = 2 by omega)
      exact ⟨mk (addrOf b c), by rw [decode_cons, hi]; rfl⟩

/-- Fetching finds no instruction exactly when the opcode byte has no record. -/
theorem fetch_eq_none_iff (s : State) : fetch s = none ↔ lookup (opcodeAt s) = none := by
  unfold fetch
  cases h : lookup (opcodeAt s) with
  | none => simp
  | some r =>
    have hb : ∃ rest, s.mem.readBytes s.ip r.length = opcodeAt s :: rest ∧ rest.length + 1 = r.length := by
      refine ⟨s.mem.readBytes (s.ip + 1) (operandLength r.mode), ?_, ?_⟩
      · rw [DecodeRecord.length, Nat.add_comm]; rfl
      · rw [Memory.length_readBytes, DecodeRecord.length, Nat.add_comm]
    obtain ⟨rest, hr, hl⟩ := hb
    obtain ⟨i, hi⟩ := decode_of_record h hl
    simp [hr, hi]

/-- Everything a step can do: run the instruction it fetched, or, on an opcode without a record, follow the policy. -/
theorem step_cases (s : State) :
    (∃ i, fetch s = some i ∧ step s = exec i s) ∨
    (lookup (opcodeAt s) = none ∧ step s = undefinedOpcode (opcodeAt s) s) := by
  unfold step
  cases h : fetch s with
  | none => exact .inr ⟨(fetch_eq_none_iff s).1 h, rfl⟩
  | some i => exact .inl ⟨i, rfl, rfl⟩

end Sys2Proof.Machine
end

