-- ==== Sys2Proof/Laws/PerInstr.lean ====
section
/-! SUPPORT. A family of statements about each instruction as data: it occupies as many bytes as the record of its
opcode says (R58, R59, R73). -/

namespace Sys2Proof.Laws.RowLength

/-- The record of the instruction's opcode is in the ROM, and its length is the number of bytes of the instruction. -/
def Statement (i : Instr) : Prop :=
  ∃ r, lookup i.opcode = some r ∧ (encode i).length = r.length

theorem brk : Statement .brk := ⟨_, rfl, rfl⟩
theorem oraIndX (b1 : Byte) : Statement (.oraIndX b1) := ⟨_, rfl, rfl⟩
theorem oraZp (b1 : Byte) : Statement (.oraZp b1) := ⟨_, rfl, rfl⟩
theorem aslZp (b1 : Byte) : Statement (.aslZp b1) := ⟨_, rfl, rfl⟩
theorem php : Statement .php := ⟨_, rfl, rfl⟩
theorem oraImm (b1 : Byte) : Statement (.oraImm b1) := ⟨_, rfl, rfl⟩
theorem aslAcc : Statement .aslAcc := ⟨_, rfl, rfl⟩
theorem oraAbs (addr : Addr) : Statement (.oraAbs addr) := ⟨_, rfl, rfl⟩
theorem aslAbs (addr : Addr) : Statement (.aslAbs addr) := ⟨_, rfl, rfl⟩
theorem bpl (b1 : Byte) : Statement (.bpl b1) := ⟨_, rfl, rfl⟩
theorem oraIndY (b1 : Byte) : Statement (.oraIndY b1) := ⟨_, rfl, rfl⟩
theorem oraZpX (b1 : Byte) : Statement (.oraZpX b1) := ⟨_, rfl, rfl⟩
theorem aslZpX (b1 : Byte) : Statement (.aslZpX b1) := ⟨_, rfl, rfl⟩
theorem clc : Statement .clc := ⟨_, rfl, rfl⟩
theorem oraAbsY (addr : Addr) : Statement (.oraAbsY addr) := ⟨_, rfl, rfl⟩
theorem oraAbsX (addr : Addr) : Statement (.oraAbsX addr) := ⟨_, rfl, rfl⟩
theorem aslAbsX (addr : Addr) : Statement (.aslAbsX addr) := ⟨_, rfl, rfl⟩
theorem jsr (addr : Addr) : Statement (.jsr addr) := ⟨_, rfl, rfl⟩
theorem andIndX (b1 : Byte) : Statement (.andIndX b1) := ⟨_, rfl, rfl⟩
theorem bitZp (b1 : Byte) : Statement (.bitZp b1) := ⟨_, rfl, rfl⟩
theorem andZp (b1 : Byte) : Statement (.andZp b1) := ⟨_, rfl, rfl⟩
theorem rolZp (b1 : Byte) : Statement (.rolZp b1) := ⟨_, rfl, rfl⟩
theorem plp : Statement .plp := ⟨_, rfl, rfl⟩
theorem andImm (b1 : Byte) : Statement (.andImm b1) := ⟨_, rfl, rfl⟩
theorem rolAcc : Statement .rolAcc := ⟨_, rfl, rfl⟩
theorem bitAbs (addr : Addr) : Statement (.bitAbs addr) := ⟨_, rfl, rfl⟩
theorem andAbs (addr : Addr) : Statement (.andAbs addr) := ⟨_, rfl, rfl⟩
theorem rolAbs (addr : Addr) : Statement (.rolAbs addr) := ⟨_, rfl, rfl⟩
theorem bmi (b1 : Byte) : Statement (.bmi b1) := ⟨_, rfl, rfl⟩
theorem andIndY (b1 : Byte) : Statement (.andIndY b1) := ⟨_, rfl, rfl⟩
theorem andZpX (b1 : Byte) : Statement (.andZpX b1) := ⟨_, rfl, rfl⟩
theorem rolZpX (b1 : Byte) : Statement (.rolZpX b1) := ⟨_, rfl, rfl⟩
theorem sec : Statement .sec := ⟨_, rfl, rfl⟩
theorem andAbsY (addr : Addr) : Statement (.andAbsY addr) := ⟨_, rfl, rfl⟩
theorem andAbsX (addr : Addr) : Statement (.andAbsX addr) := ⟨_, rfl, rfl⟩
theorem rolAbsX (addr : Addr) : Statement (.rolAbsX addr) := ⟨_, rfl, rfl⟩
theorem rti : Statement .rti := ⟨_, rfl, rfl⟩
theorem eorIndX (b1 : Byte) : Statement (.eorIndX b1) := ⟨_, rfl, rfl⟩
theorem eorZp (b1 : Byte) : Statement (.eorZp b1) := ⟨_, rfl, rfl⟩
theorem lsrZp (b1 : Byte) : Statement (.lsrZp b1) := ⟨_, rfl, rfl⟩
theorem pha : Statement .pha := ⟨_, rfl, rfl⟩
theorem eorImm (b1 : Byte) : Statement (.eorImm b1) := ⟨_, rfl, rfl⟩
theorem lsrAcc : Statement .lsrAcc := ⟨_, rfl, rfl⟩
theorem jmpAbs (addr : Addr) : Statement (.jmpAbs addr) := ⟨_, rfl, rfl⟩
theorem eorAbs (addr : Addr) : Statement (.eorAbs addr) := ⟨_, rfl, rfl⟩
theorem lsrAbs (addr : Addr) : Statement (.lsrAbs addr) := ⟨_, rfl, rfl⟩
theorem bvc (b1 : Byte) : Statement (.bvc b1) := ⟨_, rfl, rfl⟩
theorem eorIndY (b1 : Byte) : Statement (.eorIndY b1) := ⟨_, rfl, rfl⟩
theorem eorZpX (b1 : Byte) : Statement (.eorZpX b1) := ⟨_, rfl, rfl⟩
theorem lsrZpX (b1 : Byte) : Statement (.lsrZpX b1) := ⟨_, rfl, rfl⟩
theorem cli : Statement .cli := ⟨_, rfl, rfl⟩
theorem eorAbsY (addr : Addr) : Statement (.eorAbsY addr) := ⟨_, rfl, rfl⟩
theorem eorAbsX (addr : Addr) : Statement (.eorAbsX addr) := ⟨_, rfl, rfl⟩
theorem lsrAbsX (addr : Addr) : Statement (.lsrAbsX addr) := ⟨_, rfl, rfl⟩
theorem rts : Statement .rts := ⟨_, rfl, rfl⟩
theorem adcIndX (b1 : Byte) : Statement (.adcIndX b1) := ⟨_, rfl, rfl⟩
theorem adcZp (b1 : Byte) : Statement (.adcZp b1) := ⟨_, rfl, rfl⟩
theorem rorZp (b1 : Byte) : Statement (.rorZp b1) := ⟨_, rfl, rfl⟩
theorem pla : Statement .pla := ⟨_, rfl, rfl⟩
theorem adcImm (b1 : Byte) : Statement (.adcImm b1) := ⟨_, rfl, rfl⟩
theorem rorAcc : Statement .rorAcc := ⟨_, rfl, rfl⟩
theorem jmpInd (addr : Addr) : Statement (.jmpInd addr) := ⟨_, rfl, rfl⟩
theorem adcAbs (addr : Addr) : Statement (.adcAbs addr) := ⟨_, rfl, rfl⟩
theorem rorAbs (addr : Addr) : Statement (.rorAbs addr) := ⟨_, rfl, rfl⟩
theorem bvs (b1 : Byte) : Statement (.bvs b1) := ⟨_, rfl, rfl⟩
theorem adcIndY (b1 : Byte) : Statement (.adcIndY b1) := ⟨_, rfl, rfl⟩
theorem adcZpX (b1 : Byte) : Statement (.adcZpX b1) := ⟨_, rfl, rfl⟩
theorem rorZpX (b1 : Byte) : Statement (.rorZpX b1) := ⟨_, rfl, rfl⟩
theorem sei : Statement .sei := ⟨_, rfl, rfl⟩
theorem adcAbsY (addr : Addr) : Statement (.adcAbsY addr) := ⟨_, rfl, rfl⟩
theorem adcAbsX (addr : Addr) : Statement (.adcAbsX addr) := ⟨_, rfl, rfl⟩
theorem rorAbsX (addr : Addr) : Statement (.rorAbsX addr) := ⟨_, rfl, rfl⟩
theorem staIndX (b1 : Byte) : Statement (.staIndX b1) := ⟨_, rfl, rfl⟩
theorem styZp (b1 : Byte) : Statement (.styZp b1) := ⟨_, rfl, rfl⟩
theorem staZp (b1 : Byte) : Statement (.staZp b1) := ⟨_, rfl, rfl⟩
theorem stxZp (b1 : Byte) : Statement (.stxZp b1) := ⟨_, rfl, rfl⟩
theorem dey : Statement .dey := ⟨_, rfl, rfl⟩
theorem txa : Statement .txa := ⟨_, rfl, rfl⟩
theorem styAbs (addr : Addr) : Statement (.styAbs addr) := ⟨_, rfl, rfl⟩
theorem staAbs (addr : Addr) : Statement (.staAbs addr) := ⟨_, rfl, rfl⟩
theorem stxAbs (addr : Addr) : Statement (.stxAbs addr) := ⟨_, rfl, rfl⟩
theorem bcc (b1 : Byte) : Statement (.bcc b1) := ⟨_, rfl, rfl⟩
theorem staIndY (b1 : Byte) : Statement (.staIndY b1) := ⟨_, rfl, rfl⟩
theorem styZpX (b1 : Byte) : Statement (.styZpX b1) := ⟨_, rfl, rfl⟩
theorem staZpX (b1 : Byte) : Statement (.staZpX b1) := ⟨_, rfl, rfl⟩
theorem stxZpY (b1 : Byte) : Statement (.stxZpY b1) := ⟨_, rfl, rfl⟩
theorem tya : Statement .tya := ⟨_, rfl, rfl⟩
theorem staAbsY (addr : Addr) : Statement (.staAbsY addr) := ⟨_, rfl, rfl⟩
theorem txs : Statement .txs := ⟨_, rfl, rfl⟩
theorem staAbsX (addr : Addr) : Statement (.staAbsX addr) := ⟨_, rfl, rfl⟩
theorem ldyImm (b1 : Byte) : Statement (.ldyImm b1) := ⟨_, rfl, rfl⟩
theorem ldaIndX (b1 : Byte) : Statement (.ldaIndX b1) := ⟨_, rfl, rfl⟩
theorem ldxImm (b1 : Byte) : Statement (.ldxImm b1) := ⟨_, rfl, rfl⟩
theorem ldyZp (b1 : Byte) : Statement (.ldyZp b1) := ⟨_, rfl, rfl⟩
theorem ldaZp (b1 : Byte) : Statement (.ldaZp b1) := ⟨_, rfl, rfl⟩
theorem ldxZp (b1 : Byte) : Statement (.ldxZp b1) := ⟨_, rfl, rfl⟩
theorem tay : Statement .tay := ⟨_, rfl, rfl⟩
theorem ldaImm (b1 : Byte) : Statement (.ldaImm b1) := ⟨_, rfl, rfl⟩
theorem tax : Statement .tax := ⟨_, rfl, rfl⟩
theorem ldyAbs (addr : Addr) : Statement (.ldyAbs addr) := ⟨_, rfl, rfl⟩
theorem ldaAbs (addr : Addr) : Statement (.ldaAbs addr) := ⟨_, rfl, rfl⟩
theorem ldxAbs (addr : Addr) : Statement (.ldxAbs addr) := ⟨_, rfl, rfl⟩
theorem bcs (b1 : Byte) : Statement (.bcs b1) := ⟨_, rfl, rfl⟩
theorem ldaIndY (b1 : Byte) : Statement (.ldaIndY b1) := ⟨_, rfl, rfl⟩
theorem ldyZpX (b1 : Byte) : Statement (.ldyZpX b1) := ⟨_, rfl, rfl⟩
theorem ldaZpX (b1 : Byte) : Statement (.ldaZpX b1) := ⟨_, rfl, rfl⟩
theorem ldxZpY (b1 : Byte) : Statement (.ldxZpY b1) := ⟨_, rfl, rfl⟩
theorem clv : Statement .clv := ⟨_, rfl, rfl⟩
theorem ldaAbsY (addr : Addr) : Statement (.ldaAbsY addr) := ⟨_, rfl, rfl⟩
theorem tsx : Statement .tsx := ⟨_, rfl, rfl⟩
theorem ldyAbsX (addr : Addr) : Statement (.ldyAbsX addr) := ⟨_, rfl, rfl⟩
theorem ldaAbsX (addr : Addr) : Statement (.ldaAbsX addr) := ⟨_, rfl, rfl⟩
theorem ldxAbsY (addr : Addr) : Statement (.ldxAbsY addr) := ⟨_, rfl, rfl⟩
theorem cpyImm (b1 : Byte) : Statement (.cpyImm b1) := ⟨_, rfl, rfl⟩
theorem cmpIndX (b1 : Byte) : Statement (.cmpIndX b1) := ⟨_, rfl, rfl⟩
theorem cpyZp (b1 : Byte) : Statement (.cpyZp b1) := ⟨_, rfl, rfl⟩
theorem cmpZp (b1 : Byte) : Statement (.cmpZp b1) := ⟨_, rfl, rfl⟩
theorem decZp (b1 : Byte) : Statement (.decZp b1) := ⟨_, rfl, rfl⟩
theorem iny : Statement .iny := ⟨_, rfl, rfl⟩
theorem cmpImm (b1 : Byte) : Statement (.cmpImm b1) := ⟨_, rfl, rfl⟩
theorem dex : Statement .dex := ⟨_, rfl, rfl⟩
theorem cpyAbs (addr : Addr) : Statement (.cpyAbs addr) := ⟨_, rfl, rfl⟩
theorem cmpAbs (addr : Addr) : Statement (.cmpAbs addr) := ⟨_, rfl, rfl⟩
theorem decAbs (addr : Addr) : Statement (.decAbs addr) := ⟨_, rfl, rfl⟩
theorem bne (b1 : Byte) : Statement (.bne b1) := ⟨_, rfl, rfl⟩
theorem cmpIndY (b1 : Byte) : Statement (.cmpIndY b1) := ⟨_, rfl, rfl⟩
theorem cmpZpX (b1 : Byte) : Statement (.cmpZpX b1) := ⟨_, rfl, rfl⟩
theorem decZpX (b1 : Byte) : Statement (.decZpX b1) := ⟨_, rfl, rfl⟩
theorem cld : Statement .cld := ⟨_, rfl, rfl⟩
theorem cmpAbsY (addr : Addr) : Statement (.cmpAbsY addr) := ⟨_, rfl, rfl⟩
theorem cmpAbsX (addr : Addr) : Statement (.cmpAbsX addr) := ⟨_, rfl, rfl⟩
theorem decAbsX (addr : Addr) : Statement (.decAbsX addr) := ⟨_, rfl, rfl⟩
theorem cpxImm (b1 : Byte) : Statement (.cpxImm b1) := ⟨_, rfl, rfl⟩
theorem sbcIndX (b1 : Byte) : Statement (.sbcIndX b1) := ⟨_, rfl, rfl⟩
theorem cpxZp (b1 : Byte) : Statement (.cpxZp b1) := ⟨_, rfl, rfl⟩
theorem sbcZp (b1 : Byte) : Statement (.sbcZp b1) := ⟨_, rfl, rfl⟩
theorem incZp (b1 : Byte) : Statement (.incZp b1) := ⟨_, rfl, rfl⟩
theorem inx : Statement .inx := ⟨_, rfl, rfl⟩
theorem sbcImm (b1 : Byte) : Statement (.sbcImm b1) := ⟨_, rfl, rfl⟩
theorem nop : Statement .nop := ⟨_, rfl, rfl⟩
theorem cpxAbs (addr : Addr) : Statement (.cpxAbs addr) := ⟨_, rfl, rfl⟩
theorem sbcAbs (addr : Addr) : Statement (.sbcAbs addr) := ⟨_, rfl, rfl⟩
theorem incAbs (addr : Addr) : Statement (.incAbs addr) := ⟨_, rfl, rfl⟩
theorem beq (b1 : Byte) : Statement (.beq b1) := ⟨_, rfl, rfl⟩
theorem sbcIndY (b1 : Byte) : Statement (.sbcIndY b1) := ⟨_, rfl, rfl⟩
theorem sbcZpX (b1 : Byte) : Statement (.sbcZpX b1) := ⟨_, rfl, rfl⟩
theorem incZpX (b1 : Byte) : Statement (.incZpX b1) := ⟨_, rfl, rfl⟩
theorem sed : Statement .sed := ⟨_, rfl, rfl⟩
theorem sbcAbsY (addr : Addr) : Statement (.sbcAbsY addr) := ⟨_, rfl, rfl⟩
theorem sbcAbsX (addr : Addr) : Statement (.sbcAbsX addr) := ⟨_, rfl, rfl⟩
theorem incAbsX (addr : Addr) : Statement (.incAbsX addr) := ⟨_, rfl, rfl⟩

end Sys2Proof.Laws.RowLength
end

