-- ==== Sys2Proof/Tests/Slice0.lean ====
section
/-! SUPPORT. The model's own tests: ill-formed data is refused, every row's word written out from its encoding
decodes, the vectors of spec/95_test_vectors.md on single operations and single steps, and a witness for every
statement that has hypotheses. -/

namespace Sys2Proof.Tests

open Sys2Proof Sys2Proof.Machine Sys2Proof.Claims

-- The kernel evaluations below one after another: each that waits for another would hold a thread.
set_option Elab.async false

/-! ### Smoke: each check refuses an ill-formed term -/

theorem test_entry_wf_refuses_wrong_length :
    Entry.wf ⟨0xA9, 3, .immediate⟩ = false ∧ Entry.wf ⟨0xEA, 0, .implied⟩ = false ∧
      Entry.wf ⟨0xAD, 4, .absolute⟩ = false ∧ Entry.wf ⟨0xAD, 3, .absolute⟩ = true := by decide

theorem test_entriesWf_refuses_duplicate_and_wrong_length :
    entriesWf [⟨0x85, 2, .zeroPage⟩, ⟨0x85, 2, .zeroPage⟩] = false ∧ entriesWf [⟨0x00, 2, .implied⟩] = false ∧
      entriesWf [⟨0x85, 2, .zeroPage⟩] = true := by decide

theorem test_table_wf_refuses_unordered_and_repeated :
    Table.wf [⟨0xA9, .immediate⟩, ⟨0x00, .implied⟩] = false ∧
      Table.wf [⟨0x85, .zeroPage⟩, ⟨0x85, .absolute⟩] = false ∧
      Table.wf [⟨0x00, .implied⟩, ⟨0xA9, .immediate⟩] = true := by decide

theorem test_ports_wf_refuses_what_is_never_driven :
    Ports.wf ⟨1, 1, 12, 0xA9⟩ = false ∧ Ports.wf ⟨1, 0, 9, 0xEA⟩ = false ∧ Ports.wf ⟨1, 3, 0, 0xA9⟩ = false ∧
      Ports.wf ⟨0, 1, 0xF, 0xFF⟩ = false ∧ Ports.wf ⟨0, 0, 9, 0xFF⟩ = false ∧ Ports.wf ⟨0, 0, 0xF, 0xFF⟩ = true := by
  decide

theorem test_memory_wf_refuses_other_forms :
    Memory.wf [(5, 1), (3, 1)] = false ∧ Memory.wf [(5, 1), (5, 2)] = false ∧ Memory.wf [(5, 0)] = false ∧
      Memory.wf [(65536, 1)] = false ∧ Memory.wf [(3, 1), (65535, 2)] = true := by decide

/-! ### Decoding: the bits column of the six family files, operand bytes 0x10 or 0x34 0x12 -/

/-- What a byte sequence decodes to, if all of it is taken. -/
def whole (bs : List Byte) : Option Instr :=
  match decode bs with
  | .ok (i, []) => some i
  | .ok (_, _ :: _) => none
  | .error _ => none

theorem test_decode_LoadStore_first_rows :
    whole [0b10100001, 0x10] = some (.ldaIndX 0x10) ∧
    whole [0b10100101, 0x10] = some (.ldaZp 0x10) ∧
    whole [0b10101001, 0x10] = some (.ldaImm 0x10) ∧
    whole [0b10101101, 0x34, 0x12] = some (.ldaAbs 0x1234) ∧
    whole [0b10110001, 0x10] = some (.ldaIndY 0x10) ∧
    whole [0b10110101, 0x10] = some (.ldaZpX 0x10) ∧
    whole [0b10111001, 0x34, 0x12] = some (.ldaAbsY 0x1234) ∧
    whole [0b10111101, 0x34, 0x12] = some (.ldaAbsX 0x1234) ∧
    whole [0b10100010, 0x10] = some (.ldxImm 0x10) ∧
    whole [0b10100110, 0x10] = some (.ldxZp 0x10) ∧
    whole [0b10101110, 0x34, 0x12] = some (.ldxAbs 0x1234) ∧
    whole [0b10110110, 0x10] = some (.ldxZpY 0x10) ∧
    whole [0b10111110, 0x34, 0x12] = some (.ldxAbsY 0x1234) ∧
    whole [0b10100000, 0x10] = some (.ldyImm 0x10) ∧
    whole [0b10100100, 0x10] = some (.ldyZp 0x10) ∧
    whole [0b10101100, 0x34, 0x12] = some (.ldyAbs 0x1234) ∧
    whole [0b10110100, 0x10] = some (.ldyZpX 0x10) ∧
    whole [0b10111100, 0x34, 0x12] = some (.ldyAbsX 0x1234) ∧
    whole [0b10000001, 0x10] = some (.staIndX 0x10) ∧
    whole [0b10000101, 0x10] = some (.staZp 0x10) ∧
    whole [0b10001101, 0x34, 0x12] = some (.staAbs 0x1234) ∧
    whole [0b10010001, 0x10] = some (.staIndY 0x10) ∧
    whole [0b10010101, 0x10] = some (.staZpX 0x10) ∧
    whole [0b10011001, 0x34, 0x12] = some (.staAbsY 0x1234) ∧
    whole [0b10011101, 0x34, 0x12] = some (.staAbsX 0x1234) ∧
    whole [0b10000110, 0x10] = some (.stxZp 0x10) ∧
    whole [0b10001110, 0x34, 0x12] = some (.stxAbs 0x1234) ∧
    whole [0b10010110, 0x10] = some (.stxZpY 0x10) := by
  decide +kernel

theorem test_decode_LoadStore_second_rows :
    whole [0b10000100, 0x10] = some (.styZp 0x10) ∧
    whole [0b10001100, 0x34, 0x12] = some (.styAbs 0x1234) ∧
    whole [0b10010100, 0x10] = some (.styZpX 0x10) := by
  decide +kernel

theorem test_decode_TransferStack :
    whole [0b10101010] = some .tax ∧
    whole [0b10101000] = some .tay ∧
    whole [0b10111010] = some .tsx ∧
    whole [0b10001010] = some .txa ∧
    whole [0b10011010] = some .txs ∧
    whole [0b10011000] = some .tya ∧
    whole [0b01001000] = some .pha ∧
    whole [0b00001000] = some .php ∧
    whole [0b01101000] = some .pla ∧
    whole [0b00101000] = some .plp := by
  decide +kernel

theorem test_decode_LogicArith_first_rows :
    whole [0b00100001, 0x10] = some (.andIndX 0x10) ∧
    whole [0b00100101, 0x10] = some (.andZp 0x10) ∧
    whole [0b00101001, 0x10] = some (.andImm 0x10) ∧
    whole [0b00101101, 0x34, 0x12] = some (.andAbs 0x1234) ∧
    whole [0b00110001, 0x10] = some (.andIndY 0x10) ∧
    whole [0b00110101, 0x10] = some (.andZpX 0x10) ∧
    whole [0b00111001, 0x34, 0x12] = some (.andAbsY 0x1234) ∧
    whole [0b00111101, 0x34, 0x12] = some (.andAbsX 0x1234) ∧
    whole [0b01000001, 0x10] = some (.eorIndX 0x10) ∧
    whole [0b01000101, 0x10] = some (.eorZp 0x10) ∧
    whole [0b01001001, 0x10] = some (.eorImm 0x10) ∧
    whole [0b01001101, 0x34, 0x12] = some (.eorAbs 0x1234) ∧
    whole [0b01010001, 0x10] = some (.eorIndY 0x10) ∧
    whole [0b01010101, 0x10] = some (.eorZpX 0x10) ∧
    whole [0b01011001, 0x34, 0x12] = some (.eorAbsY 0x1234) ∧
    whole [0b01011101, 0x34, 0x12] = some (.eorAbsX 0x1234) ∧
    whole [0b00000001, 0x10] = some (.oraIndX 0x10) ∧
    whole [0b00000101, 0x10] = some (.oraZp 0x10) ∧
    whole [0b00001001, 0x10] = some (.oraImm 0x10) ∧
    whole [0b00001101, 0x34, 0x12] = some (.oraAbs 0x1234) ∧
    whole [0b00010001, 0x10] = some (.oraIndY 0x10) ∧
    whole [0b00010101, 0x10] = some (.oraZpX 0x10) ∧
    whole [0b00011001, 0x34, 0x12] = some (.oraAbsY 0x1234) ∧
    whole [0b00011101, 0x34, 0x12] = some (.oraAbsX 0x1234) ∧
    whole [0b00100100, 0x10] = some (.bitZp 0x10) ∧
    whole [0b00101100, 0x34, 0x12] = some (.bitAbs 0x1234) ∧
    whole [0b01100001, 0x10] = some (.adcIndX 0x10) ∧
    whole [0b01100101, 0x10] = some (.adcZp 0x10) := by
  decide +kernel

theorem test_decode_LogicArith_second_rows :
    whole [0b01101001, 0x10] = some (.adcImm 0x10) ∧
    whole [0b01101101, 0x34, 0x12] = some (.adcAbs 0x1234) ∧
    whole [0b01110001, 0x10] = some (.adcIndY 0x10) ∧
    whole [0b01110101, 0x10] = some (.adcZpX 0x10) ∧
    whole [0b01111001, 0x34, 0x12] = some (.adcAbsY 0x1234) ∧
    whole [0b01111101, 0x34, 0x12] = some (.adcAbsX 0x1234) ∧
    whole [0b11100001, 0x10] = some (.sbcIndX 0x10) ∧
    whole [0b11100101, 0x10] = some (.sbcZp 0x10) ∧
    whole [0b11101001, 0x10] = some (.sbcImm 0x10) ∧
    whole [0b11101101, 0x34, 0x12] = some (.sbcAbs 0x1234) ∧
    whole [0b11110001, 0x10] = some (.sbcIndY 0x10) ∧
    whole [0b11110101, 0x10] = some (.sbcZpX 0x10) ∧
    whole [0b11111001, 0x34, 0x12] = some (.sbcAbsY 0x1234) ∧
    whole [0b11111101, 0x34, 0x12] = some (.sbcAbsX 0x1234) ∧
    whole [0b11000001, 0x10] = some (.cmpIndX 0x10) ∧
    whole [0b11000101, 0x10] = some (.cmpZp 0x10) ∧
    whole [0b11001001, 0x10] = some (.cmpImm 0x10) ∧
    whole [0b11001101, 0x34, 0x12] = some (.cmpAbs 0x1234) ∧
    whole [0b11010001, 0x10] = some (.cmpIndY 0x10) ∧
    whole [0b11010101, 0x10] = some (.cmpZpX 0x10) ∧
    whole [0b11011001, 0x34, 0x12] = some (.cmpAbsY 0x1234) ∧
    whole [0b11011101, 0x34, 0x12] = some (.cmpAbsX 0x1234) ∧
    whole [0b11100000, 0x10] = some (.cpxImm 0x10) ∧
    whole [0b11100100, 0x10] = some (.cpxZp 0x10) ∧
    whole [0b11101100, 0x34, 0x12] = some (.cpxAbs 0x1234) ∧
    whole [0b11000000, 0x10] = some (.cpyImm 0x10) ∧
    whole [0b11000100, 0x10] = some (.cpyZp 0x10) ∧
    whole [0b11001100, 0x34, 0x12] = some (.cpyAbs 0x1234) := by
  decide +kernel

theorem test_decode_IncDecShift_first_rows :
    whole [0b11100110, 0x10] = some (.incZp 0x10) ∧
    whole [0b11101110, 0x34, 0x12] = some (.incAbs 0x1234) ∧
    whole [0b11110110, 0x10] = some (.incZpX 0x10) ∧
    whole [0b11111110, 0x34, 0x12] = some (.incAbsX 0x1234) ∧
    whole [0b11101000] = some .inx ∧
    whole [0b11001000] = some .iny ∧
    whole [0b11000110, 0x10] = some (.decZp 0x10) ∧
    whole [0b11001110, 0x34, 0x12] = some (.decAbs 0x1234) ∧
    whole [0b11010110, 0x10] = some (.decZpX 0x10) ∧
    whole [0b11011110, 0x34, 0x12] = some (.decAbsX 0x1234) ∧
    whole [0b11001010] = some .dex ∧
    whole [0b10001000] = some .dey ∧
    whole [0b00000110, 0x10] = some (.aslZp 0x10) ∧
    whole [0b00001010] = some .aslAcc ∧
    whole [0b00001110, 0x34, 0x12] = some (.aslAbs 0x1234) ∧
    whole [0b00010110, 0x10] = some (.aslZpX 0x10) ∧
    whole [0b00011110, 0x34, 0x12] = some (.aslAbsX 0x1234) ∧
    whole [0b01000110, 0x10] = some (.lsrZp 0x10) ∧
    whole [0b01001010] = some .lsrAcc ∧
    whole [0b01001110, 0x34, 0x12] = some (.lsrAbs 0x1234) ∧
    whole [0b01010110, 0x10] = some (.lsrZpX 0x10) ∧
    whole [0b01011110, 0x34, 0x12] = some (.lsrAbsX 0x1234) ∧
    whole [0b00100110, 0x10] = some (.rolZp 0x10) ∧
    whole [0b00101010] = some .rolAcc ∧
    whole [0b00101110, 0x34, 0x12] = some (.rolAbs 0x1234) ∧
    whole [0b00110110, 0x10] = some (.rolZpX 0x10) ∧
    whole [0b00111110, 0x34, 0x12] = some (.rolAbsX 0x1234) ∧
    whole [0b01100110, 0x10] = some (.rorZp 0x10) := by
  decide +kernel

theorem test_decode_IncDecShift_second_rows :
    whole [0b01101010] = some .rorAcc ∧
    whole [0b01101110, 0x34, 0x12] = some (.rorAbs 0x1234) ∧
    whole [0b01110110, 0x10] = some (.rorZpX 0x10) ∧
    whole [0b01111110, 0x34, 0x12] = some (.rorAbsX 0x1234) := by
  decide +kernel

theorem test_decode_ControlFlow :
    whole [0b01001100, 0x34, 0x12] = some (.jmpAbs 0x1234) ∧
    whole [0b01101100, 0x34, 0x12] = some (.jmpInd 0x1234) ∧
    whole [0b00100000, 0x34, 0x12] = some (.jsr 0x1234) ∧
    whole [0b01100000] = some .rts ∧
    whole [0b01000000] = some .rti ∧
    whole [0b00000000] = some .brk ∧
    whole [0b10010000, 0x10] = some (.bcc 0x10) ∧
    whole [0b10110000, 0x10] = some (.bcs 0x10) ∧
    whole [0b11110000, 0x10] = some (.beq 0x10) ∧
    whole [0b00110000, 0x10] = some (.bmi 0x10) ∧
    whole [0b11010000, 0x10] = some (.bne 0x10) ∧
    whole [0b00010000, 0x10] = some (.bpl 0x10) ∧
    whole [0b01010000, 0x10] = some (.bvc 0x10) ∧
    whole [0b01110000, 0x10] = some (.bvs 0x10) := by
  decide +kernel

theorem test_decode_FlagsNop :
    whole [0b00011000] = some .clc ∧
    whole [0b11011000] = some .cld ∧
    whole [0b01011000] = some .cli ∧
    whole [0b10111000] = some .clv ∧
    whole [0b00111000] = some .sec ∧
    whole [0b11111000] = some .sed ∧
    whole [0b01111000] = some .sei ∧
    whole [0b11101010] = some .nop := by
  decide +kernel

theorem test_decode_refuses_by_name :
    decode [] = .error .empty ∧ decode [0xFF, 0x00] = .error (.absent 0xFF) ∧
      decode [0xA9] = .error (.truncated 0xA9) ∧ decode [0xAD, 0x34] = .error (.truncated 0xAD) := by
  decide +kernel

/-! ### The source's scenarios (95, section 1) and the three corrections -/

theorem test_source_scenarios_on_the_ports :
    portsOf 0x00 = ⟨1, 1, 9, 0x00⟩ ∧ portsOf 0xA9 = ⟨1, 2, 0, 0xA9⟩ ∧ portsOf 0xAD = ⟨1, 3, 4, 0xAD⟩ ∧
      portsOf 0xB1 = ⟨1, 2, 8, 0xB1⟩ ∧ portsOf 0xFF = ⟨0, 0, 0xF, 0xFF⟩ := by decide +kernel

theorem test_corrected_defects :
    lookup 0x51 = some ⟨0x51, .indirectY⟩ ∧ lookup 0x11 = some ⟨0x11, .indirectY⟩ ∧
      lookup 0x98 = some ⟨0x98, .implied⟩ ∧ lookup 0x9A = some ⟨0x9A, .implied⟩ := by decide +kernel

theorem test_family_neighbours_absent :
    [0xAB, 0xB7, 0x89, 0x9B, 0x52, 0x34, 0xEB, 0xE2, 0x1A, 0x5A, 0x5C, 0x7C, 0x92, 0xDA].map
      (fun op : Byte => lookup op) = List.replicate 14 none := by decide +kernel

/-! ### `Construct` (95, section 5) -/

theorem test_construct_good_lists :
    construct [] = .ok [] ∧
      construct [⟨0x85, 2, .zeroPage⟩] = .ok [⟨0x85, .zeroPage⟩] ∧
      construct [⟨0xA9, 2, .immediate⟩, ⟨0x00, 1, .implied⟩] =
        construct [⟨0x00, 1, .implied⟩, ⟨0xA9, 2, .immediate⟩] ∧
      construct [⟨0x98, 1, .implied⟩, ⟨0x9A, 1, .implied⟩] = .ok [⟨0x98, .implied⟩, ⟨0x9A, .implied⟩] := by decide

theorem test_construct_failures :
    construct [⟨0x85, 2, .zeroPage⟩, ⟨0x85, 2, .zeroPage⟩] = .error ⟨.duplicateOpcode, 0x85⟩ ∧
      construct [⟨0x85, 2, .zeroPage⟩, ⟨0x85, 3, .absolute⟩] = .error ⟨.duplicateOpcode, 0x85⟩ ∧
      construct [⟨0xA9, 3, .immediate⟩] = .error ⟨.lengthModeMismatch, 0xA9⟩ ∧
      construct [⟨0x00, 2, .implied⟩] = .error ⟨.lengthModeMismatch, 0x00⟩ ∧
      construct [⟨0xEA, 0, .implied⟩] = .error ⟨.lengthModeMismatch, 0xEA⟩ ∧
      construct [⟨0xAD, 4, .absolute⟩] = .error ⟨.lengthModeMismatch, 0xAD⟩ ∧
      construct [⟨0x85, 2, .zeroPage⟩, ⟨0x85, 9, .zeroPage⟩] = .error ⟨.lengthModeMismatch, 0x85⟩ ∧
      construct [⟨0x9A, 1, .implied⟩, ⟨0x9A, 1, .implied⟩] = .error ⟨.duplicateOpcode, 0x9A⟩ := by decide

theorem test_construct_canon_with_one_more :
    construct (canon ++ [⟨0xFF, 1, .implied⟩]) = .ok (decodeRom6502 ++ [⟨0xFF, .implied⟩]) ∧
      construct (canon ++ [⟨0xA9, 2, .immediate⟩]) = .error ⟨.duplicateOpcode, 0xA9⟩ := by decide +kernel

/-! ### Consumer-side vectors (95, section 6) -/

theorem test_nextIP :
    nextIP 0x8000 ⟨0xEA, .implied⟩ = 0x8001 ∧ nextIP 0x8000 ⟨0xA9, .immediate⟩ = 0x8002 ∧
      nextIP 0x8000 ⟨0xAD, .absolute⟩ = 0x8003 ∧ nextIP 0xFFFF ⟨0xEA, .implied⟩ = 0x0000 ∧
      nextIP 0xFFFF ⟨0xA9, .immediate⟩ = 0x0001 ∧ nextIP 0xFFFE ⟨0xAD, .absolute⟩ = 0x0001 ∧
      nextIP 0xFFFD ⟨0xAD, .absolute⟩ = 0x0000 := by decide

/-- A consumer at 0x8000 with `X = 0x04`, `Y = 0x10` and the listed bytes of memory. -/
def consumer (mem : Memory) : State :=
  { State.reset with ip := 0x8000, x := 0x04, y := 0x10, mem := mem }

theorem test_resolve_direct :
    resolve .immediate 0x7F 0 (consumer []) = .immediate 0x7F 0x8001 ∧
      resolve .zeroPage 0x80 0 (consumer []) = .memory 0x0080 ∧
      resolve .zeroPageX 0x80 0 (consumer []) = .memory 0x0084 ∧
      resolve .zeroPageX 0xFF 0 { consumer [] with x := 0x02 } = .memory 0x0001 ∧
      resolve .zeroPageY 0xF8 0 (consumer []) = .memory 0x0008 ∧
      resolve .absolute 0x34 0x12 (consumer []) = .memory 0x1234 ∧
      resolve .absoluteX 0xFE 0x12 (consumer []) = .memory 0x1302 ∧
      resolve .absoluteX 0xFF 0xFF { consumer [] with x := 0x01 } = .memory 0x0000 ∧
      resolve .absoluteY 0x00 0x20 (consumer []) = .memory 0x2010 ∧
      resolve .implied 0 0 (consumer []) = .implied := by decide

theorem test_resolve_indirect :
    resolve .indirectX 0x20 0 (consumer [(0x24, 0x78), (0x25, 0x56)]) = .memory 0x5678 ∧
      resolve .indirectX 0xFE 0 { consumer [(0x00, 0xAB), (0xFF, 0xCD)] with x := 0x01 } = .memory 0xABCD ∧
      resolve .indirectX 0xFF 0 { consumer [(0x01, 0x11), (0x02, 0x22)] with x := 0x02 } = .memory 0x2211 ∧
      resolve .indirectY 0x20 0 (consumer [(0x20, 0xF8), (0x21, 0x02)]) = .memory 0x0308 ∧
      resolve .indirectY 0xFF 0 (consumer [(0x00, 0x40)]) = .memory 0x4010 ∧
      resolve .indirectY 0x20 0 (consumer [(0x20, 0xF8), (0x21, 0xFF)]) = .memory 0x0008 := by decide

theorem test_branch_targets :
    [0x00, 0x05, 0x7F, 0x80, 0xFB, 0xFE, 0xFF].map (fun b1 : Byte => branchTarget 0x8000 b1) =
        [0x8002, 0x8007, 0x8081, 0x7F82, 0x7FFD, 0x8000, 0x8001] ∧
      branchTarget 0x0010 0x80 = 0xFF92 := by decide

/-- R156: a pointer at 0x10FF takes its high byte from 0x1000. -/
theorem test_jump_indirect_does_not_carry_into_the_page :
    jumpIndirectTarget [(0x1000, 0x56), (0x10FF, 0x78), (0x1100, 0x99)] 0x10FF = 0x5678 := by decide

/-! ### Assembler lines (R78) -/

theorem test_assemble_the_table_of_syntax :
    (assemble 0 .clc .implied).map encode = some [0x18] ∧ (assemble 0 .asl .accumulator).map encode = some [0x0A] ∧
      (assemble 0 .lda (.immediate 0x10)).map encode = some [0xA9, 0x10] ∧
      (assemble 0 .lda (.zeroPage 0x10)).map encode = some [0xA5, 0x10] ∧
      (assemble 0 .lda (.zeroPageX 0x10)).map encode = some [0xB5, 0x10] ∧
      (assemble 0 .ldx (.zeroPageY 0x10)).map encode = some [0xB6, 0x10] ∧
      (assemble 0 .lda (.absolute 0x1234)).map encode = some [0xAD, 0x34, 0x12] ∧
      (assemble 0 .lda (.absoluteX 0x1234)).map encode = some [0xBD, 0x34, 0x12] ∧
      (assemble 0 .lda (.absoluteY 0x1234)).map encode = some [0xB9, 0x34, 0x12] ∧
      (assemble 0 .lda (.indirectX 0x10)).map encode = some [0xA1, 0x10] ∧
      (assemble 0 .lda (.indirectY 0x10)).map encode = some [0xB1, 0x10] ∧
      (assemble 0x800D .bne (.relative 0x8006)).map encode = some [0xD0, 0xF7] ∧
      (assemble 0 .jmp (.indirect 0x1234)).map encode = some [0x6C, 0x34, 0x12] := by decide +kernel

theorem test_assemble_refuses :
    assemble 0 .lda (.zeroPageY 0x10) = none ∧ assemble 0 .sta (.immediate 0x10) = none ∧
      assemble 0x8000 .bne (.relative 0x8082) = none := by decide +kernel

/-! ### Single steps (95, section 7) -/

/-- The state an outcome carries, if it is a next state. -/
def nextOf : Result → Option State
  | .next t => some t
  | .fault _ => none
  | .refused _ => none

/-- What a consumer has after a step: its record, its operand, its transfer and its `ip`. -/
def seen (s : State) : Option (Option DecodeRecord × Operand × Transfer × Addr) :=
  (nextOf (step s)).map fun t => (t.received, t.operand, t.transfer, t.ip)

/-- P5: the bytes of the instruction straddle the top of the address space. -/
theorem test_step_straddles_the_top :
    seen { consumer [(0x0000, 0x12), (0xFFFE, 0xAD), (0xFFFF, 0x34)] with ip := 0xFFFE } =
      some (some ⟨0xAD, .absolute⟩, .memory 0x1234, .sequential, 0x0001) := by decide +kernel

/-- P2: the call. -/
theorem test_step_jsr :
    seen { consumer [(0xC000, 0x20), (0xC001, 0x09), (0xC002, 0xC0)] with ip := 0xC000 } =
        some (some ⟨0x20, .absolute⟩, .memory 0xC009, .call 0xC009 0xC002, 0xC003) := by decide +kernel

/-- P2: the jump, with the same record but for its opcode. -/
theorem test_step_jmp :
    seen { consumer [(0xC003, 0x4C), (0xC004, 0x03), (0xC005, 0xC0)] with ip := 0xC003 } =
        some (some ⟨0x4C, .absolute⟩, .memory 0xC003, .jump 0xC003, 0xC006) := by decide +kernel

/-- P2: the indirect jump, through the reset vector's address. -/
theorem test_step_jmp_indirect :
    seen { consumer [(0xC006, 0x6C), (0xC007, 0xFC), (0xC008, 0xFF), (0xFFFC, 0x34), (0xFFFD, 0x12)] with
          ip := 0xC006 } =
        some (some ⟨0x6C, .absolute⟩, .memory 0xFFFC, .jumpIndirect 0xFFFC 0x1234, 0xC009) := by decide +kernel

/-- P2: a branch. -/
theorem test_step_branch :
    seen { consumer [(0xC00A, 0xF0), (0xC00B, 0x01)] with ip := 0xC00A } =
        some (some ⟨0xF0, .immediate⟩, .immediate 0x01 0xC00B, .branch 0xC00D 0xC00C, 0xC00C) := by decide +kernel

/-- R160, R239: BRK has length 1, and the address it saves is two on. -/
theorem test_step_brk :
    seen (consumer []) = some (some ⟨0x00, .implied⟩, .implied, .softwareBreak 0x8002, 0x8001) := by decide +kernel

/-- P3: the operand of `LDA ($08,X)` and of `LDA ($09),Y`. -/
theorem test_step_indirect_operands :
    seen { consumer [(0x0C, 0x00), (0x0D, 0x03), (0x0611, 0xA1), (0x0612, 0x08)] with ip := 0x0611 } =
        some (some ⟨0xA1, .indirectX⟩, .memory 0x0300, .sequential, 0x0613) ∧
      seen { consumer [(0x09, 0xF8), (0x0A, 0x02), (0x0613, 0xB1), (0x0614, 0x09)] with ip := 0x0613 } =
        some (some ⟨0xB1, .indirectY⟩, .memory 0x0308, .sequential, 0x0615) := by decide +kernel

/-- P3, P4: an absent opcode under the policy `fault`. -/
theorem test_step_absent_faults :
    step { consumer [(0x0617, 0xFF)] with ip := 0x0617 } = .fault (.undefinedOpcode 0xFF) ∧
      step { consumer [(0x8005, 0x03)] with ip := 0x8005 } = .fault (.undefinedOpcode 0x03) := by
  exact ⟨rfl, rfl⟩

/-- The word the host stores is the one the next step runs. -/
theorem test_withFetchWord_runs :
    seen (State.reset.withFetchWord 8 0xA9) = some (some ⟨0xA9, .immediate⟩, .immediate 0 1, .sequential, 2) ∧
      seen (State.reset.withFetchWord 24 0x12346C) =
        some (some ⟨0x6C, .absolute⟩, .memory 0x1234, .jumpIndirect 0x1234 0, 3) := by decide +kernel

/-- Writing what an unlisted address reads as takes the entry away. -/
theorem test_memory_write_canonical :
    Memory.write (Memory.write [] 5 0x12) 5 0x00 = [] ∧
      Memory.write (Memory.write [] 9 0x12) 5 0x34 = [(5, 0x34), (9, 0x12)] := by decide

/-! ### Witnesses: states and operands that meet the hypotheses of each statement -/

theorem witness_ModeCatalogueCountsAndCodes : 10 ≤ (10#4).toNat ∧ 10 ≤ (15#4).toNat := by decide

theorem witness_RomRecordLengthFollowsFromMode :
    lookup 0xEA = some ⟨0xEA, .implied⟩ ∧ lookup 0xA9 = some ⟨0xA9, .immediate⟩ ∧
      lookup 0xAD = some ⟨0xAD, .absolute⟩ := by decide +kernel

theorem witness_RomHoldsTheMap : lookup 0x98 = some ⟨0x98, .implied⟩ := by decide +kernel

theorem witness_ThirteenRowsTaggedUnconventionally :
    (⟨0x0A, .asl, .accumulator, .implied, 1⟩ : RomRow) ∈ romRows ∧
      (⟨0xD0, .bne, .relative, .immediate, 2⟩ : RomRow) ∈ romRows ∧
      (⟨0x6C, .jmp, .indirect, .absolute, 3⟩ : RomRow) ∈ romRows := by decide +kernel

theorem witness_PortsCarryTheLookup :
    lookup { State.reset with opcodeIn := 0xA9 }.opcodeIn = some ⟨0xA9, .immediate⟩ ∧
      lookup { State.reset with opcodeIn := 0xFF }.opcodeIn = none := by decide +kernel

theorem witness_ReadingThePortsGivesTheLookup :
    (⟨1, 1, 10, 0⟩ : Ports).valid = 1 ∧ 10 ≤ (⟨1, 1, 10, 0⟩ : Ports).mode.toNat ∧
      10 ≤ (⟨1, 1, 15, 0⟩ : Ports).mode.toNat ∧ (⟨0, 3, 9, 0⟩ : Ports).valid = 0 := by decide

theorem witness_StoredRomWordsDriveTheSamePorts :
    (portsOf 0xA9).pack = (⟨1, 2, 0, 0xA9⟩ : Ports).pack := by decide +kernel

theorem witness_DecodedBytesAreTheEncoding :
    decode [0xAD, 0x34, 0x12, 0xEA] = .ok (.ldaAbs 0x1234, [0xEA]) := by decide +kernel

theorem witness_DecodeRefusesExactlyAbsentAndTruncated :
    lookup 0xFF = none ∧ lookup 0xAD = some ⟨0xAD, .absolute⟩ ∧ ([0x34] : List Byte).length + 1 < 3 ∧
      decode [0xAD, 0x34] = .error (.truncated 0xAD) ∧ decode [0xAD, 0x34, 0x12] = .ok (.ldaAbs 0x1234, []) := by
  decide +kernel

theorem witness_DuplicateKeyFailsConstruction :
    (⟨0x85, 2, .zeroPage⟩ : Entry).op = (⟨0x85, 3, .absolute⟩ : Entry).op := by decide

theorem witness_LengthModeMismatchFailsConstruction :
    (⟨0xA9, 3, .immediate⟩ : Entry).len ≠ 1 + operandLength .immediate ∧ (⟨0xEA, 0, .implied⟩ : Entry).len = 0 ∧
      3 < (⟨0xAD, 4, .absolute⟩ : Entry).len := by decide

theorem witness_ConstructIsSoundAndComplete :
    construct [⟨0xA9, 2, .immediate⟩, ⟨0x00, 1, .implied⟩] = .ok [⟨0x00, .implied⟩, ⟨0xA9, .immediate⟩] := by decide

theorem witness_ConstructIgnoresTheOrderOfAGoodList :
    ([⟨0xA9, 2, .immediate⟩, ⟨0x00, 1, .implied⟩] : List Entry).Perm [⟨0x00, 1, .implied⟩, ⟨0xA9, 2, .immediate⟩] ∧
      construct [⟨0xA9, 2, .immediate⟩, ⟨0x00, 1, .implied⟩] = .ok [⟨0x00, .implied⟩, ⟨0xA9, .immediate⟩] := by decide

theorem witness_FirstFailingEntryIsReported :
    construct [⟨0x85, 2, .zeroPage⟩] = .ok [⟨0x85, .zeroPage⟩] ∧
      (⟨0x85, 9, .zeroPage⟩ : Entry).len ≠ 1 + operandLength .zeroPage ∧
      (⟨0x85, 3, .absolute⟩ : Entry).len = 1 + operandLength .absolute ∧
      (∃ d ∈ ([⟨0x85, 2, .zeroPage⟩] : List Entry), d.op = (⟨0x85, 3, .absolute⟩ : Entry).op) := by decide

/-- Memories that agree on the two pointer bytes, at the wrap, and differ elsewhere. -/
theorem witness_TagReadsOnlyTheListedBytes :
    operandLength .implied = 0 ∧ operandLength .zeroPageX = 1 ∧
      (∀ a : Addr, a.toNat = 0xFF ∨ a.toNat = (0xFF + 1) % 256 →
        Memory.read [(0x00, 0xAB), (0x10, 0x01), (0xFF, 0xCD)] a = Memory.read [(0x00, 0xAB), (0xFF, 0xCD)] a) ∧
      Memory.read [(0x00, 0xAB), (0x10, 0x01), (0xFF, 0xCD)] 0x10 ≠ Memory.read [(0x00, 0xAB), (0xFF, 0xCD)] 0x10 := by
  refine ⟨rfl, rfl, ?_, by decide⟩
  rintro a (h | h) <;> simp [Memory.read, Memory.readAt, h]

theorem witness_NextIpAddsTheLengthAndWraps : lookup 0xAD = some ⟨0xAD, .absolute⟩ := by decide +kernel

theorem witness_InstructionFrame : ∃ t, exec (.staIndY 0xFF) (consumer []) = .next t := ⟨_, rfl⟩

theorem witness_StepRunsTheInstructionAtIp :
    let s := { consumer [(0x0000, 0x12), (0xFFFE, 0xAD), (0xFFFF, 0x34)] with ip := 0xFFFE }
    s.mem.readBytes s.ip (encode (.ldaAbs 0x1234)).length = encode (.ldaAbs 0x1234) := by decide

theorem witness_FetchWordIsRunNext :
    Memory.wf { consumer [(0x8000, 0x11)] with ip := 0xFFFF }.mem = true ∧
      decodeTableWord 24 0x12346C = some (.jmpInd 0x1234) := by decide +kernel

theorem witness_AbsentOpcodeIsAnOutcome :
    let s := { consumer [(0x8000, 0xFF)] with policy := .halt }
    lookup (opcodeAt s) = none ∧ s.policy = .halt := by decide +kernel

theorem witness_UndefinedOpcodePolicyDecidesTheStop :
    lookup (opcodeAt (consumer [(0x8000, 0x02)])) = none ∧ (consumer [(0x8000, 0x02)]).policy = .fault ∧
      lookup (opcodeAt { consumer [(0x8000, 0x02)] with policy := .unofficialAlias }) = none ∧
      lookup (opcodeAt { consumer [(0x8000, 0x02)] with policy := .halt }) = none := by decide +kernel

theorem witness_StepStopsOnlyOnAbsentOpcodes :
    lookup (opcodeAt (consumer [(0x8000, 0xA9)])) ≠ none ∧
      step (consumer [(0x8000, 0x02)]) = .fault (.undefinedOpcode 0x02) ∧
      step { consumer [(0x8000, 0x02)] with policy := .unofficialAlias } = .refused (.unofficialOpcode 0x02) :=
  ⟨by decide +kernel, rfl, rfl⟩

theorem witness_PointerNeverMovesByAGuess :
    (nextOf (step (consumer [(0x8000, 0xA9)]))).isSome = true ∧ lookup 0xA9 = some ⟨0xA9, .immediate⟩ ∧
      (nextOf (step { consumer [(0x8000, 0x02)] with policy := .halt })).isSome = true ∧ lookup 0x02 = none := by
  decide +kernel

theorem witness_AnswerDependsOnTheByteAlone :
    let s := consumer [(0x8000, 0xA9)]
    let s' := { State.reset with mem := [(0x0000, 0xA9)], a := 0x55 }
    opcodeAt s = opcodeAt s' ∧ (nextOf (step s)).isSome = true ∧ (nextOf (step s')).isSome = true := by
  decide +kernel

theorem witness_StepKeepsTheInvariant :
    Inv (consumer [(0x8000, 0xA9)]) ∧ (nextOf (step (consumer [(0x8000, 0xA9)]))).isSome = true ∧
      Inv { consumer [(0x8000, 0x02)] with policy := .halt } ∧
      (nextOf (step { consumer [(0x8000, 0x02)] with policy := .halt })).isSome = true := by decide +kernel

theorem witness_SweepIsTheRunOfTheMachine :
    let m : Memory := [(0x8001, 0x05), (0x8002, 0x85), (0x8003, 0x10), (0x8004, 0xA2), (0x8005, 0x03)]
    (sweep m 0x8001 2).stop = .done ∧ (sweep m 0x8001 9).stop = .stoppedAbsent 0x03 ∧ (consumer m).policy = .fault ∧
      (sweep m 0x8001 9).trace[1]? = some (0x8003, ⟨0x10, .immediate⟩) := by decide +kernel

/-- Two consumers, each at the opcode of an `LDA #`: both take a turn, and later the second another. -/
theorem witness_ConsumersDoNotInteract :
    let first := consumer [(0x8000, 0xA9), (0x8001, 0x05)]
    let second := consumer [(0x8000, 0xA9), (0x8001, 0x07), (0x8002, 0xEA)]
    (∀ c ∈ [first, second], Machine.Inv c) ∧ 0 ∈ [0, 1] ∧ lookup (opcodeAt first) ≠ none ∧
      (runSchedule [0, 1] [first, second])[0]?.map State.received = some (some ⟨0xA9, .immediate⟩) ∧
      (runSchedule [0, 1] [first, second])[1]?.map State.received = some (some ⟨0xA9, .immediate⟩) ∧
      (runSchedule ([0, 1] ++ [1]) [first, second])[1]?.map State.received = some (some ⟨0xEA, .implied⟩) := by
  decide +kernel

/-- The range check across the top of the address space (log 26). -/
theorem test_displacement_across_the_top :
    displacement 0x0010 0xFF92 = some 0x80 ∧ displacement 0x0010 0xFF91 = none := by decide

theorem witness_DisplacementReachesExactlyTheLabelsInRange :
    displacement 0x8000 0x7F82 = some 0x80 ∧ displacement 0x8000 0x8081 = some 0x7F ∧
      displacement 0x8000 0x7F81 = none ∧ displacement 0x8000 0x8082 = none := by decide

end Sys2Proof.Tests
end

/-! ### Proofs: the records of the ROM, and the immediate and zero-page operands (spec/30_encoding.md) -/

section

namespace Sys2Proof

/-! #### The length of a record (R58) -/

/-- The loop of R200 goes to its end only when every entry passes the length check (R202). -/
theorem constructFrom_ok_len {T T' : Table} {es : List Entry} (h : constructFrom T es = .ok T') :
    ∀ e ∈ es, e.len = 1 + operandLength e.mode := by
  induction es generalizing T with
  | nil => simp
  | cons e es ih =>
    rcases constructStep_cases T e with ⟨-, hs⟩ | ⟨-, -, hs⟩ | ⟨hlen, -, hs⟩ <;>
      simp only [constructFrom, hs, reduceCtorEq] at h
    exact List.forall_mem_cons.2 ⟨hlen, ih h⟩

/-- The printed length of a row agrees with its mode: the design's own construction checked it (R202, R204). -/
theorem romRows_len {row : RomRow} (h : row ∈ romRows) : row.len = 1 + operandLength row.mode :=
  constructFrom_ok_len construct_canon row.entry (List.mem_map_of_mem h)

/-- What `Lookup` answers for a byte is the record of a row of the published table, printed for that byte. -/
theorem exists_romRow_of_lookup {op : Byte} {r : DecodeRecord} (h : lookup op = some r) :
    ∃ row ∈ romRows, row.op = op ∧ row.mode = r.mode := by
  obtain ⟨hr, hop⟩ := Table.get_eq_some h
  rw [decodeRom6502_eq, canon, List.map_map] at hr
  obtain ⟨row, hrow, rfl⟩ := List.mem_map.1 hr
  exact ⟨row, hrow, hop, rfl⟩

/-! #### The three formats (R52, R58) -/

theorem operandLength_eq_zero_iff (m : Mode) : operandLength m = 0 ↔ m = .implied := by
  cases m <;> decide

theorem operandLength_eq_one_iff (m : Mode) : operandLength m = 1 ↔
    m ∈ [Mode.immediate, .zeroPage, .zeroPageX, .zeroPageY, .indirectX, .indirectY] := by
  cases m <;> decide

theorem operandLength_eq_two_iff (m : Mode) : operandLength m = 2 ↔
    m ∈ [Mode.absolute, .absoluteX, .absoluteY] := by
  cases m <;> decide

/-- A record is one byte longer than the operand its mode takes. -/
theorem DecodeRecord.length_eq_succ_iff (r : DecodeRecord) (n : Nat) :
    r.length = n + 1 ↔ operandLength r.mode = n := by
  rw [DecodeRecord.length, Nat.add_comm, Nat.add_right_cancel_iff]

/-- Settles O2: construction checked the length of the row behind the record, and the formats are the three operand
lengths. -/
theorem romRecordLengthFollowsFromMode : Obligations.RomRecordLengthFollowsFromMode := by
  intro op r h
  obtain ⟨row, hrow, hop, hmode⟩ := exists_romRow_of_lookup h
  have hlen : row.len = r.length := by rw [romRows_len hrow, hmode, DecodeRecord.length]
  exact ⟨rfl, ⟨row, hrow, hop, hmode, hlen⟩,
    (r.length_eq_succ_iff 0).trans (operandLength_eq_zero_iff r.mode),
    (r.length_eq_succ_iff 1).trans (operandLength_eq_one_iff r.mode),
    (r.length_eq_succ_iff 2).trans (operandLength_eq_two_iff r.mode)⟩

end Sys2Proof

namespace Sys2Proof.Machine

/-! #### The immediate and zero-page operands (R62, R63) -/

@[simp] theorem resolve_immediate (b1 b2 : Byte) (s : State) :
    resolve .immediate b1 b2 s = .immediate b1 (s.ip + 1) := rfl

@[simp] theorem resolve_zeroPage (b1 b2 : Byte) (s : State) :
    resolve .zeroPage b1 b2 s = .memory (eaZeroPage b1) := rfl

/-- The next address, wrapping at the top of memory. -/
theorem addr_add_one (a : Addr) : a + 1 = BitVec.ofNat 16 ((a.toNat + 1) % 65536) := by
  apply BitVec.eq_of_toNat_eq
  rw [BitVec.toNat_add, BitVec.toNat_ofNat, Nat.mod_mod]
  rfl

/-- Settles O20: the tag takes the first operand byte, at the address after `ip`. -/
theorem immediateOperandIsTheNextByte : Obligations.ImmediateOperandIsTheNextByte := by
  intro b1 b2 s
  rw [resolve_immediate, addr_add_one]

/-- Settles O21: the address is the zero-extended operand byte, and a byte is at most 0xFF. -/
theorem zeroPageAddressIsTheOperandByte : Obligations.ZeroPageAddressIsTheOperandByte := by
  intro b1 b2 s
  have hb : b1.toNat ≤ 0x00FF := Nat.le_of_lt_succ b1.isLt
  exact ⟨eaZeroPage b1, resolve_zeroPage b1 b2 s, eaZeroPage_toNat b1, (eaZeroPage_toNat b1).trans_le hb⟩

end Sys2Proof.Machine

end

/-! ### Proofs: construction of a table (spec/60_exceptions.md) -/

section

namespace Sys2Proof

/-- A key that is free after a record was stored under a free key is another key, and was free before. -/
theorem Table.get_insert_eq_none {r : DecodeRecord} {T : Table} {k : Byte} (h : Table.get T r.opcode = none) :
    Table.get (Table.insert r T) k = none ↔ r.opcode ≠ k ∧ Table.get T k = none := by
  rw [Table.get_insert h]
  split <;> simp [*]

/-- The loop of R200 goes to its end only when every key of the list was free at the start, and no key comes twice:
a stored key stays taken (R201). -/
theorem constructFrom_ok_keys {T T' : Table} {es : List Entry} (h : constructFrom T es = .ok T') :
    (∀ e ∈ es, Table.get T e.op = none) ∧ (es.map Entry.op).Nodup := by
  induction es generalizing T with
  | nil => simp
  | cons e es ih =>
    rcases constructStep_cases T e with ⟨-, hs⟩ | ⟨-, -, hs⟩ | ⟨-, hfree, hs⟩ <;>
      simp only [constructFrom, hs, reduceCtorEq] at h
    obtain ⟨hrest, hnodup⟩ := ih h
    have hkeys : ∀ d ∈ es, e.op ≠ d.op ∧ Table.get T d.op = none :=
      fun d hd => (Table.get_insert_eq_none hfree).1 (hrest d hd)
    have hnew : e.op ∉ es.map Entry.op := by
      simpa using fun d hd => (hkeys d hd).1.symm
    exact ⟨List.forall_mem_cons.2 ⟨hfree, fun d hd => (hkeys d hd).2⟩, List.nodup_cons.2 ⟨hnew, hnodup⟩⟩

/-- Settles O15: a list that construction accepts has no key twice, and here the key of `e` comes again at `f`. -/
theorem duplicateKeyFailsConstruction : Obligations.DuplicateKeyFailsConstruction := by
  intro pre mid post e f hop
  cases h : construct (pre ++ e :: mid ++ f :: post) with
  | error err => exact ⟨err, rfl⟩
  | ok T =>
    obtain ⟨-, hnodup⟩ := constructFrom_ok_keys h
    rw [List.map_append, List.nodup_append] at hnodup
    obtain ⟨-, -, hne⟩ := hnodup
    have he : e.op ∈ (pre ++ e :: mid).map Entry.op := by simp
    have hf : f.op ∈ (f :: post).map Entry.op := by simp
    exact absurd hop (hne _ he _ hf)

end Sys2Proof

end

/-! ### Proofs: the decoder and the encoder (spec/30_encoding.md section 7) -/

section

namespace Sys2Proof

/-! #### What a form takes from the bytes (R58, R59) -/

@[simp] theorem Form.build_f1 (op : Byte) (i : Instr) (rest : List Byte) :
    (Form.f1 i).build op rest = .ok (i, rest) := rfl

@[simp] theorem Form.build_f2_cons (op b1 : Byte) (mk : Byte → Instr) (rest : List Byte) :
    (Form.f2 mk).build op (b1 :: rest) = .ok (mk b1, rest) := rfl

@[simp] theorem Form.build_f2_nil (op : Byte) (mk : Byte → Instr) :
    (Form.f2 mk).build op [] = .error (.truncated op) := rfl

@[simp] theorem Form.build_f3_cons_cons (op b1 b2 : Byte) (mk : Addr → Instr) (rest : List Byte) :
    (Form.f3 mk).build op (b1 :: b2 :: rest) = .ok (mk (addrOf b1 b2), rest) := rfl

@[simp] theorem Form.build_f3_nil (op : Byte) (mk : Addr → Instr) :
    (Form.f3 mk).build op [] = .error (.truncated op) := rfl

@[simp] theorem Form.build_f3_singleton (op b1 : Byte) (mk : Addr → Instr) :
    (Form.f3 mk).build op [b1] = .error (.truncated op) := rfl

@[simp] theorem decode_nil : decode [] = .error .empty := rfl

/-- A form that encodes what it builds takes exactly the operand bytes of the instruction it answers. -/
theorem Form.Encodes.eq_append {op : Byte} {f : Form} (hf : f.Encodes op) {bs rest : List Byte} {i : Instr}
    (h : f.build op bs = .ok (i, rest)) : op :: bs = encode i ++ rest := by
  cases f with
  | f1 j =>
    obtain ⟨rfl, rfl⟩ : j = i ∧ bs = rest := by simpa using h
    rw [show encode j = [op] from hf]; rfl
  | f2 mk =>
    cases bs with
    | nil => simp at h
    | cons b1 bs =>
      obtain ⟨rfl, rfl⟩ : mk b1 = i ∧ bs = rest := by simpa using h
      rw [hf b1]; rfl
  | f3 mk =>
    match bs, h with
    | b1 :: b2 :: bs, h =>
      obtain ⟨rfl, rfl⟩ : mk (addrOf b1 b2) = i ∧ bs = rest := by simpa using h
      rw [hf b1 b2]; rfl

/-- The opcode of an instruction begins a form, and that form builds the instruction from its operand bytes. -/
theorem exists_formOf_opcode (i : Instr) :
    ∃ f, formOf i.opcode = some f ∧ ∀ rest, f.build i.opcode (i.operandBytes ++ rest) = .ok (i, rest) := by
  cases i <;> refine ⟨_, rfl, fun rest => ?_⟩ <;> simp [Instr.operandBytes, encode]

/-- The decoder reads an instruction back from its bytes, whatever follows them. -/
@[simp] theorem decode_encode_append (i : Instr) (rest : List Byte) :
    decode (encode i ++ rest) = .ok (i, rest) := by
  obtain ⟨f, hf, hb⟩ := exists_formOf_opcode i
  rw [encode_eq, List.cons_append, decode_cons, hf]
  exact hb rest

@[simp] theorem decode_encode (i : Instr) : decode (encode i) = .ok (i, []) := by
  simpa using decode_encode_append i []

/-- What is decoded is encoded by exactly the bytes that were taken. -/
theorem eq_encode_append_of_decode {bs rest : List Byte} {i : Instr} (h : decode bs = .ok (i, rest)) :
    bs = encode i ++ rest := by
  cases bs with
  | nil => simp at h
  | cons op bs =>
    rw [decode_cons] at h
    cases hf : formOf op with
    | none => simp [hf] at h
    | some f => exact (formOf_encode hf).eq_append (by simpa [hf] using h)

/-- Settles O10: the form of the opcode builds the instruction from the operand bytes, and leaves the rest. -/
theorem decodeReadsBackEveryEncoding : Obligations.DecodeReadsBackEveryEncoding :=
  decode_encode_append

/-- Settles O11: every form of the decoder encodes what it builds. -/
theorem decodedBytesAreTheEncoding : Obligations.DecodedBytesAreTheEncoding :=
  fun _ _ _ => eq_encode_append_of_decode

/-- A sequence that begins with a legal opcode is decoded when it has the bytes the record asks for, which are then
taken, and is refused as truncated when it has not. -/
theorem decode_cons_of_lookup {op : Byte} {r : DecodeRecord} (h : lookup op = some r) (rest : List Byte) :
    (∃ i rest', decode (op :: rest) = .ok (i, rest') ∧ rest'.length + r.length = rest.length + 1) ∨
      (rest.length + 1 < r.length ∧ decode (op :: rest) = .error (.truncated op)) := by
  obtain ⟨hn, -⟩ | ⟨r', hr, hf⟩ := Machine.formOf_cases op
  · simp [hn] at h
  obtain rfl : r = r' := Option.some.inj (h.symm.trans hr)
  rcases hf with ⟨hlen, i, hi⟩ | ⟨hlen, mk, hi⟩ | ⟨hlen, mk, hi⟩ <;> rw [decode_cons, hi, hlen]
  · simp
  · cases rest <;> simp
  · match rest with
    | [] => simp
    | [_] => simp
    | _ :: _ :: _ => simp

/-- An instruction has the operand bytes that the record of its opcode asks for. -/
theorem length_operandBytes {i : Instr} {r : DecodeRecord} (h : lookup i.opcode = some r) :
    i.operandBytes.length = operandLength r.mode := by
  have hd : decode (i.opcode :: i.operandBytes) = .ok (i, []) := by rw [← encode_eq, decode_encode]
  rcases decode_cons_of_lookup h i.operandBytes with ⟨j, rest', hj, hlen⟩ | ⟨-, hj⟩
  · obtain ⟨-, rfl⟩ : i = j ∧ [] = rest' := by simpa [hd] using hj
    rw [List.length_nil, DecodeRecord.length] at hlen
    omega
  · simp [hd] at hj

theorem length_encode {i : Instr} {r : DecodeRecord} (h : lookup i.opcode = some r) :
    (encode i).length = r.length := by
  rw [encode_eq, List.length_cons, length_operandBytes h, DecodeRecord.length, Nat.add_comm]

theorem decode_cons_of_lookup_eq_none {op : Byte} (h : lookup op = none) (rest : List Byte) :
    decode (op :: rest) = .error (.absent op) := by
  obtain ⟨-, hf⟩ | ⟨r, hr, -⟩ := Machine.formOf_cases op
  · rw [decode_cons, hf]
  · simp [h] at hr

/-- Settles O12: the three answers to a non-empty sequence exclude each other, and each case of `Lookup` and of the
number of bytes gives one of them. -/
theorem decodeRefusesExactlyAbsentAndTruncated : Obligations.DecodeRefusesExactlyAbsentAndTruncated := by
  intro op rest
  cases h : lookup op with
  | none => simp [decode_cons_of_lookup_eq_none h]
  | some r =>
    rcases decode_cons_of_lookup h rest with ⟨i, rest', hd, hlen⟩ | ⟨hlt, hd⟩
    · have hle : r.length ≤ rest.length + 1 := by omega
      simp [hd, hle]
    · simp [hd, hlt]

end Sys2Proof

end

/-! ### Proofs: which lists construction accepts, and the table it answers (spec/60_exceptions.md) -/

section

namespace Sys2Proof

/-! #### The ascending form of a table (log 17) -/

theorem Table.le_of_mem_wfFrom {lo : Nat} {T : Table} {r : DecodeRecord} (h : Table.wfFrom lo T = true) (hr : r ∈ T) :
    lo ≤ r.opcode.toNat := by
  induction T generalizing lo with
  | nil => simp at hr
  | cons q T ih =>
    simp only [Table.wfFrom, Bool.and_eq_true, decide_eq_true_eq] at h
    obtain ⟨hlo, hT⟩ := h
    rcases List.mem_cons.1 hr with rfl | hr
    · exact hlo
    · exact hlo.trans ((Nat.le_succ _).trans (ih hT hr))

theorem Table.keys_ascend_of_wfFrom {lo : Nat} {T : Table} (h : Table.wfFrom lo T = true) :
    T.Pairwise fun q r => q.opcode.toNat < r.opcode.toNat := by
  induction T generalizing lo with
  | nil => exact .nil
  | cons q T ih =>
    simp only [Table.wfFrom, Bool.and_eq_true, decide_eq_true_eq] at h
    obtain ⟨-, hT⟩ := h
    exact .cons (fun r hr => Table.le_of_mem_wfFrom hT hr) (ih hT)

/-- A well-formed table holds two records of one key only as one record. -/
theorem Table.eq_of_mem_of_opcode_eq {T : Table} (h : Table.wf T = true) {q r : DecodeRecord} (hq : q ∈ T) (hr : r ∈ T)
    (hop : q.opcode = r.opcode) : q = r := by
  have hkeys : (T.map DecodeRecord.opcode).Nodup :=
    List.pairwise_map.2 ((Table.keys_ascend_of_wfFrom h).imp fun hlt heq => by simp [heq] at hlt)
  exact List.inj_on_of_nodup_map hkeys hq hr hop

/-- A well-formed table answers a key with a record exactly when the record stands in it under that key. -/
theorem Table.get_eq_some_iff {T : Table} (h : Table.wf T = true) {k : Byte} {r : DecodeRecord} :
    Table.get T k = some r ↔ r ∈ T ∧ r.opcode = k := by
  refine ⟨Table.get_eq_some, fun ⟨hr, hk⟩ => ?_⟩
  cases hg : Table.get T k with
  | none => exact absurd hk (Table.get_eq_none.1 hg r hr)
  | some q =>
    obtain ⟨hq, hqk⟩ := Table.get_eq_some hg
    rw [Table.eq_of_mem_of_opcode_eq h hq hr (hqk.trans hk.symm)]

/-- Two well-formed tables of the same records are the same list: the ascending order leaves one form. -/
theorem Table.eq_of_perm {T T' : Table} (h : Table.wf T = true) (h' : Table.wf T' = true) (hp : T.Perm T') : T = T' :=
  hp.eq_of_pairwise (fun _ _ _ _ hlt hgt => absurd (hlt.trans hgt) (Nat.lt_irrefl _))
    (Table.keys_ascend_of_wfFrom h) (Table.keys_ascend_of_wfFrom h')

/-! #### What the loop answers -/

theorem Table.insert_perm (r : DecodeRecord) (T : Table) : (Table.insert r T).Perm (r :: T) := by
  induction T with
  | nil => exact .refl _
  | cons q T ih =>
    unfold Table.insert
    split
    · exact .refl _
    · exact (ih.cons q).trans (.swap r q T)

/-- The loop stores the records of its entries, each once, and keeps the ascending form. -/
theorem constructFrom_ok_table {T T' : Table} {es : List Entry} (h : constructFrom T es = .ok T')
    (hT : Table.wf T = true) : Table.wf T' = true ∧ T'.Perm (es.map Entry.record ++ T) := by
  induction es generalizing T with
  | nil =>
    obtain rfl : T = T' := Except.ok.inj h
    exact ⟨hT, .refl _⟩
  | cons e es ih =>
    rcases constructStep_cases T e with ⟨-, hs⟩ | ⟨-, -, hs⟩ | ⟨-, hfree, hs⟩ <;>
      simp only [constructFrom, hs, reduceCtorEq] at h
    obtain ⟨hwf, hperm⟩ := ih h (Table.wfFrom_insert hT (Nat.zero_le _) hfree)
    exact ⟨hwf, hperm.trans (((Table.insert_perm _ _).append_left _).trans List.perm_middle)⟩

theorem construct_ok_table {es : List Entry} {T : Table} (h : construct es = .ok T) :
    Table.wf T = true ∧ T.Perm (es.map Entry.record) := by
  simpa using constructFrom_ok_table h rfl

/-- The loop goes to its end on consistent entries whose keys are free and do not repeat. -/
theorem exists_constructFrom_ok {T : Table} {es : List Entry} (hlen : ∀ e ∈ es, e.len = 1 + operandLength e.mode)
    (hfree : ∀ e ∈ es, Table.get T e.op = none) (hnodup : (es.map Entry.op).Nodup) :
    ∃ T', constructFrom T es = .ok T' := by
  induction es generalizing T with
  | nil => exact ⟨T, rfl⟩
  | cons e es ih =>
    obtain ⟨hel, hlen⟩ := List.forall_mem_cons.1 hlen
    obtain ⟨hef, hfree⟩ := List.forall_mem_cons.1 hfree
    obtain ⟨hnew, hnodup⟩ := List.nodup_cons.1 hnodup
    have hstep : constructStep T e = .ok (Table.insert e.record T) := by simp [constructStep, hel, hef]
    simp only [constructFrom, hstep]
    refine ih hlen (fun d hd => (Table.get_insert_eq_none hef).2 ⟨fun hop => hnew ?_, hfree d hd⟩) hnodup
    exact List.mem_map.2 ⟨d, hd, hop.symm⟩

theorem entriesWf_iff (es : List Entry) :
    entriesWf es = true ↔ (∀ e ∈ es, e.len = 1 + operandLength e.mode) ∧ (es.map Entry.op).Nodup := by
  simp [entriesWf, Entry.wf]

theorem exists_construct_ok_iff (es : List Entry) : (∃ T, construct es = .ok T) ↔ entriesWf es = true := by
  rw [entriesWf_iff]
  constructor
  · rintro ⟨T, h⟩
    exact ⟨constructFrom_ok_len h, (constructFrom_ok_keys h).2⟩
  · rintro ⟨hlen, hnodup⟩
    exact exists_constructFrom_ok hlen (fun _ _ => rfl) hnodup

theorem entriesWf_of_perm {es fs : List Entry} (hp : es.Perm fs) (h : entriesWf es = true) : entriesWf fs = true := by
  rw [entriesWf_iff] at h ⊢
  obtain ⟨hlen, hnodup⟩ := h
  exact ⟨fun e he => hlen e (hp.mem_iff.2 he), (hp.map _).nodup_iff.1 hnodup⟩

/-! #### The statements -/

/-- Settles O16: a list that construction accepts has no entry of a wrong length. -/
theorem lengthModeMismatchFailsConstruction : Obligations.LengthModeMismatchFailsConstruction := by
  refine ⟨fun pre post e hlen => ?_, fun e hrange => ?_⟩
  · cases h : construct (pre ++ e :: post) with
    | error err => exact ⟨err, rfl⟩
    | ok T => exact absurd (constructFrom_ok_len h e (by simp)) hlen
  · have := operandLength_le e.mode
    omega

/-- Settles O17: the answered table is the records of the entries in ascending order, so a key answers what stands
under it. -/
theorem constructIsSoundAndComplete : Obligations.ConstructIsSoundAndComplete := by
  refine fun es => ⟨exists_construct_ok_iff es, fun T h => ?_⟩
  obtain ⟨hwf, hperm⟩ := construct_ok_table h
  refine ⟨hwf, fun k r => ?_⟩
  rw [Table.get_eq_some_iff hwf, hperm.mem_iff, List.mem_map]
  constructor
  · rintro ⟨⟨e, he, rfl⟩, hk⟩
    exact ⟨e, he, hk, rfl, (constructFrom_ok_len h e he).symm⟩
  · rintro ⟨e, he, hk, rfl, -⟩
    exact ⟨⟨e, he, rfl⟩, hk⟩

/-- Settles O18: both orders are accepted, and their tables hold the same records in the one ascending form. -/
theorem constructIgnoresTheOrderOfAGoodList : Obligations.ConstructIgnoresTheOrderOfAGoodList := by
  intro es fs T hp h
  have hfs : entriesWf fs = true := entriesWf_of_perm hp ((exists_construct_ok_iff es).1 ⟨T, h⟩)
  obtain ⟨T', h'⟩ := (exists_construct_ok_iff fs).2 hfs
  obtain ⟨hwf, hperm⟩ := construct_ok_table h
  obtain ⟨hwf', hperm'⟩ := construct_ok_table h'
  rw [h', Table.eq_of_perm hwf hwf' (hperm.trans ((hp.map _).trans hperm'.symm))]

/-- Settles O19: once the entries before it are stored, the loop makes one turn on the entry, and a turn has three
outcomes. -/
theorem firstFailingEntryIsReported : Obligations.FirstFailingEntryIsReported := by
  intro pre post e T h
  have hrun : construct (pre ++ e :: post) = constructFrom T (e :: post) := by
    rw [construct, constructFrom_append, ← construct, h]
  rw [hrun, constructFrom]
  rcases constructStep_cases T e with ⟨hlen, hs⟩ | ⟨hlen, -, hs⟩ | ⟨hlen, hfree, hs⟩
  · exact ⟨fun _ => by rw [hs], fun hl => absurd hl hlen⟩
  · exact ⟨fun hl => absurd hlen hl, fun _ _ => by rw [hs]⟩
  · refine ⟨fun hl => absurd hlen hl, fun _ ⟨d, hd, hop⟩ => absurd hop ?_⟩
    have hmem : d.record ∈ T := (construct_ok_table h).2.mem_iff.2 (List.mem_map_of_mem hd)
    exact Table.get_eq_none.1 hfree _ hmem

end Sys2Proof

end

/-! ### Proofs: the catalogue, the ROM and the ports (spec/30_encoding.md sections 1, 5, 6;
spec/10_state.md section 7) -/

section

namespace Sys2Proof

open Claims

/-! #### The catalogue and the contents of the ROM -/

@[simp] theorem Mode.ofCode_code (m : Mode) : Mode.ofCode m.code = some m := by
  cases m <;> decide

theorem Mode.code_lt (m : Mode) : m.code.toNat < 10 := by
  cases m <;> decide

theorem Mode.ofCode_eq_none {c : BitVec 4} (h : 10 ≤ c.toNat) : Mode.ofCode c = none := by
  refine List.find?_eq_none.2 fun m _ hm => ?_
  have hc : m.code = c := by simpa using hm
  have := m.code_lt
  rw [hc] at this
  omega

/-- Settles O1: the lists are read off the ten tags, and no tag has a code from 10 up. -/
theorem modeCatalogueCountsAndCodes : Obligations.ModeCatalogueCountsAndCodes :=
  ⟨by decide, by decide, mem_allModes, Mode.ofCode_code, fun _ => Mode.ofCode_eq_none⟩

/-- Settles O3: the 256 cells are compared one by one, and a record stands under its own key. -/
theorem romHoldsTheMap : Obligations.RomHoldsTheMap :=
  ⟨by decide +kernel, fun _ _ => lookup_opcode⟩

/-- A key is absent exactly when its cell of the map is empty: a record of the ROM has a row. -/
theorem lookup_eq_none_iff (op : Byte) : lookup op = none ↔ romMap[op.toNat]? = some none := by
  have hcell := romHoldsTheMap.1 op
  cases h : lookup op with
  | none => simpa [h] using hcell
  | some r =>
    obtain ⟨row, hrow, hop, -⟩ := exists_romRow_of_lookup h
    cases hr : rowOf op with
    | none => exact absurd hop (by simpa using List.find?_eq_none.1 hr row hrow)
    | some row' => simp [hcell, h, hr]

/-- Settles O4: the cells of the map are compared one by one with the regularities of R72. -/
theorem absentKeysAreExactlyTheListed : Obligations.AbsentKeysAreExactlyTheListed := by
  unfold Obligations.AbsentKeysAreExactlyTheListed
  simp only [lookup_eq_none_iff]
  exact ⟨by decide +kernel, by decide +kernel⟩

/-- The records the 256 keys answer, in order, are the ROM. -/
theorem filterMap_lookup_allBytes : allBytes.filterMap lookup = decodeRom6502 := by decide +kernel

/-- Counting records over the keys is counting them in the ROM. -/
theorem countRecords_eq (f : DecodeRecord → Bool) : countRecords f = decodeRom6502.countP f := by
  rw [countRecords, filterMap_lookup_allBytes]

theorem length_canon : canon.length = 151 := by decide +kernel

theorem length_decodeRom6502 : decodeRom6502.length = 151 := by
  rw [decodeRom6502_eq, List.length_map, length_canon]

/-- Settles O5: the records are counted in the list the ROM was built from. -/
theorem romCounts : Obligations.RomCounts := by
  unfold Obligations.RomCounts
  simp only [countRecords_eq, List.countP_true]
  exact ⟨length_decodeRom6502, length_decodeRom6502, by decide +kernel, by decide +kernel, by decide +kernel⟩

/-- Settles O6: the 151 rows are compared one by one. -/
theorem thirteenRowsTaggedUnconventionally : Obligations.ThirteenRowsTaggedUnconventionally := by
  unfold Obligations.ThirteenRowsTaggedUnconventionally
  decide +kernel

/-- Settles O14: the design's own construction succeeded (R203), and a list that construction accepts is well-formed. -/
theorem constructOfCanonIsTheRom : Obligations.ConstructOfCanonIsTheRom :=
  ⟨construct_canon, length_canon, (exists_construct_ok_iff canon).1 ⟨_, construct_canon⟩⟩

/-- Settles O13: each of the ten words is decoded. -/
theorem publishedWordsDecode : Obligations.PublishedWordsDecode := by
  unfold Obligations.PublishedWordsDecode
  decide +kernel

/-! #### The ports (R21, R22) -/

/-- The ports that carry a record (R22). -/
theorem portsOf_of_lookup {op : Byte} {r : DecodeRecord} (h : lookup op = some r) :
    portsOf op = { valid := 1, length := BitVec.ofNat 2 r.length, mode := r.mode.code, opcodeOut := op } := by
  simp [portsOf, h, lookup_opcode h]

/-- The ports that carry absent (R22, D3). -/
theorem portsOf_of_lookup_eq_none {op : Byte} (h : lookup op = none) :
    portsOf op = { valid := 0, length := 0, mode := 0xF, opcodeOut := op } := by
  simp [portsOf, h]

/-- A length fits its port: it is at most 3. -/
theorem DecodeRecord.length_lt (r : DecodeRecord) : r.length < 4 := by
  have := operandLength_le r.mode
  rw [DecodeRecord.length]
  omega

@[simp] theorem DecodeRecord.length_mod (r : DecodeRecord) : r.length % 4 = r.length :=
  Nat.mod_eq_of_lt r.length_lt

/-- A record is its key and its mode. -/
theorem record_eq_of_lookup {op : Byte} {r : DecodeRecord} (h : lookup op = some r) :
    (⟨op, r.mode⟩ : DecodeRecord) = r := by
  rw [← lookup_opcode h]

/-- The reader gets back what the block looked up (R236). -/
@[simp] theorem read_portsOf (op : Byte) : Ports.read (portsOf op) = some (lookup op) := by
  cases h : lookup op with
  | none => simp [portsOf_of_lookup_eq_none h, Ports.read]
  | some r =>
    have hlen : 1 + operandLength r.mode < 4 := r.length_lt
    simp [portsOf_of_lookup h, Ports.read, DecodeRecord.length, hlen, record_eq_of_lookup h]

theorem wf_portsOf (op : Byte) : Ports.wf (portsOf op) = true := by
  cases h : lookup op with
  | none => simp [portsOf_of_lookup_eq_none h, Ports.wf]
  | some r =>
    have hlen : 1 + operandLength r.mode < 4 := r.length_lt
    simp [portsOf_of_lookup h, Ports.wf, DecodeRecord.length, hlen]

/-- Settles O7: the ports of a state are those of the byte on its input port. -/
theorem portsCarryTheLookup : Obligations.PortsCarryTheLookup := by
  refine fun s => ⟨fun r h => ?_, portsOf_of_lookup_eq_none, wf_portsOf s.opcodeIn⟩
  simp [Machine.State.ports, portsOf_of_lookup h]

/-- Settles O8: the reader tests `valid` first, and no tag has a code from 10 up. -/
theorem readingThePortsGivesTheLookup : Obligations.ReadingThePortsGivesTheLookup := by
  refine ⟨read_portsOf, fun p hv hm => ?_, fun p hv => ?_⟩
  · simp [Ports.read, hv, Mode.ofCode_eq_none hm]
  · simp [Ports.read, hv]

/-! #### The stored words (R75) -/

/-- The fields of a word are read back from it. -/
theorem append_eq_append_iff {n k : Nat} {x x' : BitVec n} {y y' : BitVec k} :
    x ++ y = x' ++ y' ↔ x = x' ∧ y = y' := by
  refine ⟨fun h => ⟨?_, ?_⟩, fun ⟨hx, hy⟩ => by rw [hx, hy]⟩
  · simpa only [BitVec.extractLsb'_append_eq_left] using congrArg (BitVec.extractLsb' k n) h
  · simpa only [BitVec.extractLsb'_append_eq_right] using congrArg (BitVec.extractLsb' 0 k) h

theorem ports_eq_of_fields {p q : Ports} (hv : p.valid = q.valid) (hl : p.length = q.length) (hm : p.mode = q.mode)
    (ho : p.opcodeOut = q.opcodeOut) : p = q := by
  cases p
  cases q
  simp_all

theorem pack_injective {p q : Ports} (h : p.pack = q.pack) : p = q := by
  obtain ⟨hword, hop⟩ := append_eq_append_iff.1 h
  obtain ⟨hhigh, hmode⟩ := append_eq_append_iff.1 hword
  obtain ⟨hvalid, hlength⟩ := append_eq_append_iff.1 hhigh
  exact ports_eq_of_fields hvalid hlength hmode hop

@[simp] theorem opcodeOut_portsOf (op : Byte) : (portsOf op).opcodeOut = op := by
  cases h : lookup op with
  | none => rw [portsOf_of_lookup_eq_none h]
  | some r => rw [portsOf_of_lookup h]

/-- The length on the ports is the one that the mode code on them stands for, 0 with the code of absent. -/
@[simp] theorem lengthOfCode_portsOf (op : Byte) : lengthOfCode (portsOf op).mode = (portsOf op).length := by
  cases h : lookup op with
  | none => rw [portsOf_of_lookup_eq_none h]; rfl
  | some r => simp [portsOf_of_lookup h, lengthOfCode, DecodeRecord.length]

@[simp] theorem ports7_romWord7 (op : Byte) : ports7 op (romWord7 op) = portsOf op := by
  have hvalid : (romWord7 op).extractLsb' 6 1 = (portsOf op).valid :=
    (BitVec.extractLsb'_append_eq_of_le (by decide)).trans BitVec.extractLsb'_append_eq_left
  have hlength : (romWord7 op).extractLsb' 4 2 = (portsOf op).length :=
    (BitVec.extractLsb'_append_eq_of_le (by decide)).trans BitVec.extractLsb'_append_eq_right
  exact ports_eq_of_fields hvalid hlength BitVec.extractLsb'_append_eq_right (opcodeOut_portsOf op).symm

@[simp] theorem ports5_romWord5 (op : Byte) : ports5 op (romWord5 op) = portsOf op := by
  have hmode : (romWord5 op).extractLsb' 0 4 = (portsOf op).mode := BitVec.extractLsb'_append_eq_right
  refine ports_eq_of_fields BitVec.extractLsb'_append_eq_left ?_ hmode (opcodeOut_portsOf op).symm
  simp [ports5, hmode]

/-- Settles O9: the fields are read back from the stored word, the five bits giving the length by its mode code. -/
theorem storedRomWordsDriveTheSamePorts : Obligations.StoredRomWordsDriveTheSamePorts :=
  ⟨fun op => ⟨ports7_romWord7 op, ports5_romWord5 op⟩, fun _ _ => pack_injective⟩

end Sys2Proof

end

/-! ### Proofs: what a tag tells the consumer, and NextIP (spec/30_encoding.md section 4, spec/10_state.md section 3) -/

section

namespace Sys2Proof.Machine

open Claims

/-! #### The address of each tag -/

@[simp] theorem resolve_zeroPageX (b1 b2 : Byte) (s : State) :
    resolve .zeroPageX b1 b2 s = .memory (eaZeroPageIndexed b1 s.x) := rfl

@[simp] theorem resolve_zeroPageY (b1 b2 : Byte) (s : State) :
    resolve .zeroPageY b1 b2 s = .memory (eaZeroPageIndexed b1 s.y) := rfl

@[simp] theorem resolve_absolute (b1 b2 : Byte) (s : State) :
    resolve .absolute b1 b2 s = .memory (eaAbsolute b1 b2) := rfl

@[simp] theorem resolve_absoluteX (b1 b2 : Byte) (s : State) :
    resolve .absoluteX b1 b2 s = .memory (eaAbsoluteIndexed b1 b2 s.x) := rfl

@[simp] theorem resolve_absoluteY (b1 b2 : Byte) (s : State) :
    resolve .absoluteY b1 b2 s = .memory (eaAbsoluteIndexed b1 b2 s.y) := rfl

@[simp] theorem resolve_indirectX (b1 b2 : Byte) (s : State) :
    resolve .indirectX b1 b2 s = .memory (eaIndirectX s.mem b1 s.x) := rfl

@[simp] theorem resolve_indirectY (b1 b2 : Byte) (s : State) :
    resolve .indirectY b1 b2 s = .memory (eaIndirectY s.mem b1 s.y) := rfl

@[simp] theorem resolve_implied (b1 b2 : Byte) (s : State) : resolve .implied b1 b2 s = .implied := rfl

/-- A zero-page address, given by its number. -/
theorem setWidth_byte (p : Byte) : p.setWidth 16 = BitVec.ofNat 16 p.toNat := by
  rw [BitVec.ofNat_toNat]

/-- The pointer at a zero-page address, in plain numbers: its high byte lies at the next address mod 256. -/
theorem zeroPagePointer_toNat (s : State) (p : Byte) :
    (zeroPagePointer s.mem p).toNat = pointerAt s p.toNat ((p.toNat + 1) % 256) := by
  rw [zeroPagePointer, readPointer_toNat, setWidth_byte, setWidth_byte, BitVec.toNat_add]
  rfl

theorem eaIndirectX_toNat (b1 : Byte) (s : State) :
    (eaIndirectX s.mem b1 s.x).toNat =
      pointerAt s ((b1.toNat + s.x.toNat) % 256) ((b1.toNat + s.x.toNat + 1) % 256) := by
  rw [eaIndirectX, zeroPagePointer_toNat, BitVec.toNat_add, Nat.mod_add_mod]

theorem eaIndirectY_toNat (b1 : Byte) (s : State) :
    (eaIndirectY s.mem b1 s.y).toNat =
      (pointerAt s b1.toNat ((b1.toNat + 1) % 256) + s.y.toNat) % 65536 := by
  rw [eaIndirectY, BitVec.toNat_add, zeroPagePointer_toNat, BitVec.toNat_setWidth_of_le (by decide)]

/-- Settles O22: a byte sum is taken mod 256. -/
theorem indexedZeroPageStaysInThePage : Obligations.IndexedZeroPageStaysInThePage := by
  refine fun b1 b2 s => ⟨_, _, resolve_zeroPageX b1 b2 s, eaZeroPageIndexed_toNat b1 s.x, ?_,
    resolve_zeroPageY b1 b2 s, eaZeroPageIndexed_toNat b1 s.y, ?_⟩ <;>
  · rw [eaZeroPageIndexed_toNat]
    exact Nat.mod_lt _ (by decide)

/-- Settles O23: the second operand byte is the high one, and an address sum is taken mod 65536. -/
theorem absoluteAddressesAreLittleEndianAndWrap : Obligations.AbsoluteAddressesAreLittleEndianAndWrap :=
  fun b1 b2 s => ⟨_, _, _, resolve_absolute b1 b2 s, addrOf_toNat b1 b2,
    resolve_absoluteX b1 b2 s, eaAbsoluteIndexed_toNat b1 b2 s.x,
    resolve_absoluteY b1 b2 s, eaAbsoluteIndexed_toNat b1 b2 s.y⟩

/-- Settles O24: one pointer of the zero page is read, and the index is added before or after. -/
theorem indirectAddressesGoThroughTheZeroPage : Obligations.IndirectAddressesGoThroughTheZeroPage :=
  fun b1 b2 s => ⟨_, _, resolve_indirectX b1 b2 s, eaIndirectX_toNat b1 s,
    resolve_indirectY b1 b2 s, eaIndirectY_toNat b1 s⟩

/-- Settles O26: a record is 1 to 3 bytes long, and that is no multiple of 65536. -/
theorem nextIpAddsTheLengthAndWraps : Obligations.NextIpAddsTheLengthAndWraps := by
  refine fun ip op r _ => ⟨nextIP_toNat ip r, fun h => ?_⟩
  have hip : (ip.toNat + r.length) % 65536 = ip.toNat := by rw [← nextIP_toNat, h]
  have hpos : r.length = 1 + operandLength r.mode := rfl
  have := r.length_lt
  omega

/-! #### What a tag reads (R45) -/

/-- A zero-page pointer depends on its two bytes alone. -/
theorem zeroPagePointer_congr {m m' : Memory} {p : Byte}
    (h : ∀ a : Addr, a.toNat = p.toNat ∨ a.toNat = (p.toNat + 1) % 256 → m'.read a = m.read a) :
    zeroPagePointer m' p = zeroPagePointer m p := by
  have hlo : m'.read (p.setWidth 16) = m.read (p.setWidth 16) :=
    h _ (.inl (BitVec.toNat_setWidth_of_le (by decide)))
  have hhi : m'.read ((p + 1).setWidth 16) = m.read ((p + 1).setWidth 16) :=
    h _ (.inr (by rw [BitVec.toNat_setWidth_of_le (by decide), BitVec.toNat_add]; rfl))
  rw [zeroPagePointer, zeroPagePointer, Memory.readPointer, Memory.readPointer, hlo, hhi]

/-- Settles O25: only the tags of two operand bytes look at the second, and only the two indirect tags look at
memory, through one zero-page pointer. -/
theorem tagReadsOnlyTheListedBytes : Obligations.TagReadsOnlyTheListedBytes := by
  intro m b1 b2 c1 c2 s mem
  refine ⟨fun h => ?_, fun h => ?_, fun hx hy => ?_, fun h => ?_, fun h => ?_⟩
  · obtain rfl : m = .implied := (operandLength_eq_zero_iff m).1 h
    rfl
  · cases m with
    | absolute | absoluteX | absoluteY | implied => simp [operandLength] at h
    | _ => rfl
  · cases m with
    | indirectX => exact absurd rfl hx
    | indirectY => exact absurd rfl hy
    | _ => rfl
  · have hp : zeroPagePointer mem (b1 + s.x) = zeroPagePointer s.mem (b1 + s.x) :=
      zeroPagePointer_congr fun a ha => h a (by simpa [BitVec.toNat_add] using ha)
    exact congrArg Operand.memory hp
  · exact congrArg (fun p => Operand.memory (p + s.y.setWidth 16)) (zeroPagePointer_congr h)

end Sys2Proof.Machine

end

/-! ### Proofs: the rows of the six instruction families (spec/40_load_store.md to spec/45_flags_nop.md) -/

section

namespace Sys2Proof.Machine

open Claims

/-! #### The formulas of the statements (R62 to R69, R15) -/

theorem nextIP_eq (ip : Addr) (r : DecodeRecord) : nextIP ip r = BitVec.ofNat 16 ((ip.toNat + r.length) % 65536) := by
  apply BitVec.eq_of_toNat_eq
  rw [nextIP_toNat, BitVec.toNat_ofNat, Nat.mod_mod]

/-- Two addresses further, wrapping at the top of memory. -/
theorem addr_add_two (a : Addr) : a + 2 = BitVec.ofNat 16 ((a.toNat + 2) % 65536) := by
  apply BitVec.eq_of_toNat_eq
  rw [BitVec.toNat_add, BitVec.toNat_ofNat, Nat.mod_mod]
  rfl

/-- An address whose number is known below 65536. -/
theorem addr_eq_ofNat {a : Addr} {n : Nat} (h : a.toNat = n) : a = BitVec.ofNat 16 n := by
  rw [← h, BitVec.ofNat_toNat, BitVec.setWidth_eq]

theorem lowByte_eq (a : Addr) : lowByte a = BitVec.ofNat 8 (a.toNat % 256) := by
  apply BitVec.eq_of_toNat_eq
  rw [lowByte, BitVec.toNat_setWidth, BitVec.toNat_ofNat, Nat.mod_mod]

theorem highByte_eq (a : Addr) : highByte a = BitVec.ofNat 8 (a.toNat / 256) := by
  apply BitVec.eq_of_toNat_eq
  rw [highByte, BitVec.toNat_setWidth, BitVec.toNat_ushiftRight, BitVec.toNat_ofNat, Nat.shiftRight_eq_div_pow]

theorem resolve_immediate_eq (b1 b2 : Byte) (s : State) : resolve .immediate b1 b2 s = immediate b1 s :=
  immediateOperandIsTheNextByte b1 b2 s

theorem resolve_zeroPage_eq (b1 b2 : Byte) (s : State) : resolve .zeroPage b1 b2 s = zeroPage b1 s :=
  congrArg Operand.memory (addr_eq_ofNat (eaZeroPage_toNat b1))

theorem resolve_zeroPageX_eq (b1 b2 : Byte) (s : State) : resolve .zeroPageX b1 b2 s = zeroPageX b1 s :=
  congrArg Operand.memory (addr_eq_ofNat (eaZeroPageIndexed_toNat b1 s.x))

theorem resolve_zeroPageY_eq (b1 b2 : Byte) (s : State) : resolve .zeroPageY b1 b2 s = zeroPageY b1 s :=
  congrArg Operand.memory (addr_eq_ofNat (eaZeroPageIndexed_toNat b1 s.y))

theorem resolve_indirectX_eq (b1 b2 : Byte) (s : State) : resolve .indirectX b1 b2 s = indirectX b1 s := by
  refine congrArg Operand.memory (addr_eq_ofNat ?_)
  rw [eaIndirectX_toNat, Nat.mod_add_mod]

theorem resolve_indirectY_eq (b1 b2 : Byte) (s : State) : resolve .indirectY b1 b2 s = indirectY b1 s :=
  congrArg Operand.memory (addr_eq_ofNat (eaIndirectY_toNat b1 s))

theorem resolve_absolute_eq (addr : Addr) (s : State) :
    resolve .absolute (lowByte addr) (highByte addr) s = absolute addr s :=
  congrArg Operand.memory (addrOf_bytes addr)

/-- The sum of an indexed absolute address, in plain numbers. -/
theorem eaAbsoluteIndexed_eq (addr : Addr) (index : Byte) :
    eaAbsoluteIndexed (lowByte addr) (highByte addr) index =
      BitVec.ofNat 16 ((addr.toNat + index.toNat) % 65536) := by
  apply addr_eq_ofNat
  rw [eaAbsoluteIndexed, addrOf_bytes, BitVec.toNat_add, BitVec.toNat_setWidth_of_le (by decide)]

theorem resolve_absoluteX_eq (addr : Addr) (s : State) :
    resolve .absoluteX (lowByte addr) (highByte addr) s = absoluteX addr s :=
  congrArg Operand.memory (eaAbsoluteIndexed_eq addr s.x)

theorem resolve_absoluteY_eq (addr : Addr) (s : State) :
    resolve .absoluteY (lowByte addr) (highByte addr) s = absoluteY addr s :=
  congrArg Operand.memory (eaAbsoluteIndexed_eq addr s.y)

/-- The target of a branch as one sum of integers, taken mod 65536 (R161). -/
theorem branchTarget_eq_ofInt (ip : Addr) (b1 : Byte) :
    branchTarget ip b1 = BitVec.ofInt 16 ((ip.toNat : Int) + 2 + b1.toInt) := by
  rw [BitVec.ofInt_add, BitVec.ofInt_add, BitVec.ofInt_natCast, BitVec.ofNat_toNat, BitVec.setWidth_eq]
  rfl

theorem branchTransfer_eq (b1 : Byte) (s : State) : branchTransfer b1 s = branch b1 s := by
  rw [branchTransfer, branchTarget_eq_ofInt, addr_add_two]
  rfl

/-- The target of an indirect jump in plain numbers (R156). -/
theorem jumpIndirectTarget_eq (s : State) (addr : Addr) :
    jumpIndirectTarget s.mem addr =
      BitVec.ofNat 16 (pointerAt s addr.toNat (addr.toNat / 256 * 256 + (addr.toNat + 1) % 256)) := by
  apply addr_eq_ofNat
  rw [jumpIndirectTarget, readPointer_toNat, addr_eq_ofNat (jumpPointer_toNat addr), pointerAt, byteAt, byteAt,
    BitVec.ofNat_toNat, BitVec.setWidth_eq]

/-! #### What a row answers, by its format and its tag -/

/-- An instruction whose meaning is a transaction answered with a record is a row of that record: by `exec_answered`
the record is the ROM's. -/
theorem answers_of_exec {i : Instr} {op : Byte} {m : Mode} {b1 b2 : Byte} {bytes : List Byte}
    {operand : State → Operand} {transfer : State → Transfer} (henc : encode i = bytes) (hop : bytes.head? = some op)
    (hlen : bytes.length = DecodeRecord.length ⟨op, m⟩)
    (hexec : ∀ s, exec i s = .next (answered op m b1 b2 (transfer s) s))
    (hoperand : ∀ s, resolve m b1 b2 s = operand s) : Answers i bytes op bytes.length m operand transfer := by
  have hlookup : lookup op = some ⟨op, m⟩ := by
    obtain ⟨m', t, hm', ht⟩ := exec_answered i State.reset
    have hreceived := congrArg State.received (Host.Outcome.next.inj ((hexec _).symm.trans ht))
    obtain ⟨rfl, rfl⟩ : op = i.opcode ∧ m = m' := by simpa using hreceived
    exact hm'
  refine ⟨henc, hop, rfl, hlookup, hlen.symm, ?_, fun s => ?_⟩
  · rw [portsOf_of_lookup hlookup, hlen]
  · rw [hexec, hlen, ← nextIP_eq, ← hoperand]
    rfl

section Rows

variable {i : Instr} {op b1 : Byte} {m : Mode} {addr : Addr} {operand : State → Operand} {transfer : State → Transfer}

theorem answersF1 (henc : encode i = [op]) (hexec : ∀ s, exec i s = answerF1 op (transfer s) s) :
    AnswersF1 i op transfer :=
  answers_of_exec henc rfl rfl hexec (resolve_implied 0 0)

theorem answersF2 (henc : encode i = [op, b1]) (hexec : ∀ s, exec i s = answerF2 op m b1 (transfer s) s)
    (hm : operandLength m = 1) (hoperand : ∀ s, resolve m b1 0 s = operand s) :
    AnswersF2 i op m b1 operand transfer :=
  answers_of_exec henc rfl (by rw [DecodeRecord.length, hm]; rfl) hexec hoperand

theorem answersF3 (henc : encode i = [op, lowByte addr, highByte addr])
    (hexec : ∀ s, exec i s = answerF3 op m addr (transfer s) s) (hm : operandLength m = 2)
    (hoperand : ∀ s, resolve m (lowByte addr) (highByte addr) s = operand s) :
    AnswersF3 i op m addr operand transfer := by
  rw [lowByte_eq, highByte_eq] at henc
  exact answers_of_exec henc rfl (by rw [DecodeRecord.length, hm]; rfl) hexec hoperand

theorem answers_immediate (henc : encode i = [op, b1])
    (hexec : ∀ s, exec i s = answerF2 op .immediate b1 (transfer s) s) :
    AnswersF2 i op .immediate b1 (immediate b1) transfer :=
  answersF2 henc hexec rfl (resolve_immediate_eq b1 0)

theorem answers_zeroPage (henc : encode i = [op, b1])
    (hexec : ∀ s, exec i s = answerF2 op .zeroPage b1 (transfer s) s) :
    AnswersF2 i op .zeroPage b1 (zeroPage b1) transfer :=
  answersF2 henc hexec rfl (resolve_zeroPage_eq b1 0)

theorem answers_zeroPageX (henc : encode i = [op, b1])
    (hexec : ∀ s, exec i s = answerF2 op .zeroPageX b1 (transfer s) s) :
    AnswersF2 i op .zeroPageX b1 (zeroPageX b1) transfer :=
  answersF2 henc hexec rfl (resolve_zeroPageX_eq b1 0)

theorem answers_zeroPageY (henc : encode i = [op, b1])
    (hexec : ∀ s, exec i s = answerF2 op .zeroPageY b1 (transfer s) s) :
    AnswersF2 i op .zeroPageY b1 (zeroPageY b1) transfer :=
  answersF2 henc hexec rfl (resolve_zeroPageY_eq b1 0)

theorem answers_indirectX (henc : encode i = [op, b1])
    (hexec : ∀ s, exec i s = answerF2 op .indirectX b1 (transfer s) s) :
    AnswersF2 i op .indirectX b1 (indirectX b1) transfer :=
  answersF2 henc hexec rfl (resolve_indirectX_eq b1 0)

theorem answers_indirectY (henc : encode i = [op, b1])
    (hexec : ∀ s, exec i s = answerF2 op .indirectY b1 (transfer s) s) :
    AnswersF2 i op .indirectY b1 (indirectY b1) transfer :=
  answersF2 henc hexec rfl (resolve_indirectY_eq b1 0)

theorem answers_absolute (henc : encode i = [op, lowByte addr, highByte addr])
    (hexec : ∀ s, exec i s = answerF3 op .absolute addr (transfer s) s) :
    AnswersF3 i op .absolute addr (absolute addr) transfer :=
  answersF3 henc hexec rfl (resolve_absolute_eq addr)

theorem answers_absoluteX (henc : encode i = [op, lowByte addr, highByte addr])
    (hexec : ∀ s, exec i s = answerF3 op .absoluteX addr (transfer s) s) :
    AnswersF3 i op .absoluteX addr (absoluteX addr) transfer :=
  answersF3 henc hexec rfl (resolve_absoluteX_eq addr)

theorem answers_absoluteY (henc : encode i = [op, lowByte addr, highByte addr])
    (hexec : ∀ s, exec i s = answerF3 op .absoluteY addr (transfer s) s) :
    AnswersF3 i op .absoluteY addr (absoluteY addr) transfer :=
  answersF3 henc hexec rfl (resolve_absoluteY_eq addr)

/-- A conditional branch: the two addresses of its transfer in plain numbers (R161 to R168). -/
theorem answers_branch (henc : encode i = [op, b1])
    (hexec : ∀ s, exec i s = answerF2 op .immediate b1 (branchTransfer b1 s) s) :
    AnswersF2 i op .immediate b1 (immediate b1) (branch b1) :=
  answers_immediate henc fun s => branchTransfer_eq b1 s ▸ hexec s

end Rows

/-! #### The statements: each row is its encoding and the meaning that `exec` dispatches to -/

/-- Settles O27: the lemma of each row's tag, from the row's bytes and its meaning. -/
theorem loadRowsAnswerTheirRecords : Obligations.LoadRowsAnswerTheirRecords :=
  fun _ _ => ⟨answers_indirectX rfl fun _ => rfl, answers_zeroPage rfl fun _ => rfl, answers_immediate rfl fun _ => rfl,
    answers_absolute rfl fun _ => rfl, answers_indirectY rfl fun _ => rfl, answers_zeroPageX rfl fun _ => rfl,
    answers_absoluteY rfl fun _ => rfl, answers_absoluteX rfl fun _ => rfl, answers_immediate rfl fun _ => rfl,
    answers_zeroPage rfl fun _ => rfl, answers_absolute rfl fun _ => rfl, answers_zeroPageY rfl fun _ => rfl,
    answers_absoluteY rfl fun _ => rfl, answers_immediate rfl fun _ => rfl, answers_zeroPage rfl fun _ => rfl,
    answers_absolute rfl fun _ => rfl, answers_zeroPageX rfl fun _ => rfl, answers_absoluteX rfl fun _ => rfl⟩

/-- Settles O28: the lemma of each row's tag; a store is answered like a load. -/
theorem storeRowsAnswerTheirRecords : Obligations.StoreRowsAnswerTheirRecords :=
  fun _ _ => ⟨answers_indirectX rfl fun _ => rfl, answers_zeroPage rfl fun _ => rfl, answers_absolute rfl fun _ => rfl,
    answers_indirectY rfl fun _ => rfl, answers_zeroPageX rfl fun _ => rfl, answers_absoluteY rfl fun _ => rfl,
    answers_absoluteX rfl fun _ => rfl, answers_zeroPage rfl fun _ => rfl, answers_absolute rfl fun _ => rfl,
    answers_zeroPageY rfl fun _ => rfl, answers_zeroPage rfl fun _ => rfl, answers_absolute rfl fun _ => rfl,
    answers_zeroPageX rfl fun _ => rfl⟩

/-- Settles O29: every row is of format F1. -/
theorem transferAndStackRowsAnswerTheirRecords : Obligations.TransferAndStackRowsAnswerTheirRecords := by
  refine ⟨?_, ?_, ?_, ?_, ?_, ?_, ?_, ?_, ?_, ?_⟩ <;> exact answersF1 rfl fun _ => rfl

/-- Settles O30: the lemma of each row's tag, from the row's bytes and its meaning. -/
theorem logicRowsAnswerTheirRecords : Obligations.LogicRowsAnswerTheirRecords :=
  fun _ _ => ⟨answers_indirectX rfl fun _ => rfl, answers_zeroPage rfl fun _ => rfl, answers_immediate rfl fun _ => rfl,
    answers_absolute rfl fun _ => rfl, answers_indirectY rfl fun _ => rfl, answers_zeroPageX rfl fun _ => rfl,
    answers_absoluteY rfl fun _ => rfl, answers_absoluteX rfl fun _ => rfl, answers_indirectX rfl fun _ => rfl,
    answers_zeroPage rfl fun _ => rfl, answers_immediate rfl fun _ => rfl, answers_absolute rfl fun _ => rfl,
    answers_indirectY rfl fun _ => rfl, answers_zeroPageX rfl fun _ => rfl, answers_absoluteY rfl fun _ => rfl,
    answers_absoluteX rfl fun _ => rfl, answers_indirectX rfl fun _ => rfl, answers_zeroPage rfl fun _ => rfl,
    answers_immediate rfl fun _ => rfl, answers_absolute rfl fun _ => rfl, answers_indirectY rfl fun _ => rfl,
    answers_zeroPageX rfl fun _ => rfl, answers_absoluteY rfl fun _ => rfl, answers_absoluteX rfl fun _ => rfl,
    answers_zeroPage rfl fun _ => rfl, answers_absolute rfl fun _ => rfl⟩

/-- Settles O31: the lemma of each row's tag, from the row's bytes and its meaning. -/
theorem arithmeticRowsAnswerTheirRecords : Obligations.ArithmeticRowsAnswerTheirRecords :=
  fun _ _ => ⟨answers_indirectX rfl fun _ => rfl, answers_zeroPage rfl fun _ => rfl, answers_immediate rfl fun _ => rfl,
    answers_absolute rfl fun _ => rfl, answers_indirectY rfl fun _ => rfl, answers_zeroPageX rfl fun _ => rfl,
    answers_absoluteY rfl fun _ => rfl, answers_absoluteX rfl fun _ => rfl, answers_indirectX rfl fun _ => rfl,
    answers_zeroPage rfl fun _ => rfl, answers_immediate rfl fun _ => rfl, answers_absolute rfl fun _ => rfl,
    answers_indirectY rfl fun _ => rfl, answers_zeroPageX rfl fun _ => rfl, answers_absoluteY rfl fun _ => rfl,
    answers_absoluteX rfl fun _ => rfl⟩

/-- Settles O32: the lemma of each row's tag, from the row's bytes and its meaning. -/
theorem compareRowsAnswerTheirRecords : Obligations.CompareRowsAnswerTheirRecords :=
  fun _ _ => ⟨answers_indirectX rfl fun _ => rfl, answers_zeroPage rfl fun _ => rfl, answers_immediate rfl fun _ => rfl,
    answers_absolute rfl fun _ => rfl, answers_indirectY rfl fun _ => rfl, answers_zeroPageX rfl fun _ => rfl,
    answers_absoluteY rfl fun _ => rfl, answers_absoluteX rfl fun _ => rfl, answers_immediate rfl fun _ => rfl,
    answers_zeroPage rfl fun _ => rfl, answers_absolute rfl fun _ => rfl, answers_immediate rfl fun _ => rfl,
    answers_zeroPage rfl fun _ => rfl, answers_absolute rfl fun _ => rfl⟩

/-- Settles O33: the lemma of each row's tag; the register forms are of format F1. -/
theorem incrementDecrementRowsAnswerTheirRecords : Obligations.IncrementDecrementRowsAnswerTheirRecords :=
  fun _ _ => ⟨answers_zeroPage rfl fun _ => rfl, answers_absolute rfl fun _ => rfl, answers_zeroPageX rfl fun _ => rfl,
    answers_absoluteX rfl fun _ => rfl, answersF1 rfl fun _ => rfl, answersF1 rfl fun _ => rfl,
    answers_zeroPage rfl fun _ => rfl, answers_absolute rfl fun _ => rfl, answers_zeroPageX rfl fun _ => rfl,
    answers_absoluteX rfl fun _ => rfl, answersF1 rfl fun _ => rfl, answersF1 rfl fun _ => rfl⟩

/-- Settles O34: the lemma of each row's tag; the accumulator forms are of format F1. -/
theorem shiftRotateRowsAnswerTheirRecords : Obligations.ShiftRotateRowsAnswerTheirRecords :=
  fun _ _ => ⟨answers_zeroPage rfl fun _ => rfl, answersF1 rfl fun _ => rfl, answers_absolute rfl fun _ => rfl,
    answers_zeroPageX rfl fun _ => rfl, answers_absoluteX rfl fun _ => rfl, answers_zeroPage rfl fun _ => rfl,
    answersF1 rfl fun _ => rfl, answers_absolute rfl fun _ => rfl, answers_zeroPageX rfl fun _ => rfl,
    answers_absoluteX rfl fun _ => rfl, answers_zeroPage rfl fun _ => rfl, answersF1 rfl fun _ => rfl,
    answers_absolute rfl fun _ => rfl, answers_zeroPageX rfl fun _ => rfl, answers_absoluteX rfl fun _ => rfl,
    answers_zeroPage rfl fun _ => rfl, answersF1 rfl fun _ => rfl, answers_absolute rfl fun _ => rfl,
    answers_zeroPageX rfl fun _ => rfl, answers_absoluteX rfl fun _ => rfl⟩

/-- Settles O35: the tags are those of other rows; what is left are the addresses of the transfers, in plain numbers. -/
theorem jumpCallReturnRowsAnswerTheirRecords : Obligations.JumpCallReturnRowsAnswerTheirRecords := by
  refine fun addr => ⟨answers_absolute rfl fun _ => rfl, answers_absolute rfl fun s => ?_,
    answers_absolute rfl fun s => ?_, answersF1 rfl fun _ => rfl, answersF1 rfl fun _ => rfl, answersF1 rfl fun s => ?_⟩
  · rw [← jumpIndirectTarget_eq]; rfl
  · rw [← addr_add_two]; rfl
  · rw [← addr_add_two]; rfl

/-- Settles O36: each of the eight is a branch, with the two addresses of `answers_branch`. -/
theorem branchRowsAnswerTheirRecords : Obligations.BranchRowsAnswerTheirRecords := by
  refine fun b1 => ⟨?_, ?_, ?_, ?_, ?_, ?_, ?_, ?_⟩ <;> exact answers_branch rfl fun _ => rfl

/-- Settles O37: every row is of format F1. -/
theorem flagRowsAndNopAnswerTheirRecords : Obligations.FlagRowsAndNopAnswerTheirRecords := by
  refine ⟨?_, ?_, ?_, ?_, ?_, ?_, ?_, ?_⟩ <;> exact answersF1 rfl fun _ => rfl

end Sys2Proof.Machine

end

/-! ### Proofs: one step of a consumer (spec/10_state.md, spec/60_exceptions.md section 2) -/

section

namespace Sys2Proof.Machine

/-! #### What a step can do, by the byte at the instruction pointer -/

/-- The bytes fetched under a record begin with the opcode byte. -/
theorem readBytes_length_eq (s : State) (r : DecodeRecord) :
    s.mem.readBytes s.ip r.length = opcodeAt s :: s.mem.readBytes (s.ip + 1) (operandLength r.mode) := by
  rw [DecodeRecord.length, Nat.add_comm]
  rfl

/-- The instruction that is fetched begins with the byte at the instruction pointer. -/
theorem opcode_of_fetch {s : State} {i : Instr} (h : fetch s = some i) : i.opcode = opcodeAt s := by
  unfold fetch at h
  cases hr : lookup (opcodeAt s) with
  | none => simp [hr] at h
  | some r =>
    cases hd : decode (s.mem.readBytes s.ip r.length) with
    | error e => simp [hr, hd] at h
    | ok p =>
      obtain ⟨j, rest⟩ := p
      obtain rfl : j = i := by simpa [hr, hd] using h
      have hbytes := eq_encode_append_of_decode hd
      rw [readBytes_length_eq, encode_eq, List.cons_append] at hbytes
      exact (List.head_eq_of_cons_eq hbytes).symm

/-- On a legal opcode the step is a transaction answered with the ROM's record. -/
theorem step_of_lookup {s : State} {r : DecodeRecord} (h : lookup (opcodeAt s) = some r) :
    ∃ b1 b2 t, step s = .next (answered (opcodeAt s) r.mode b1 b2 t s) := by
  rcases step_cases s with ⟨i, hi, hs⟩ | ⟨hn, -⟩
  · obtain ⟨m, t, hm, ht⟩ := exec_answered i s
    rw [opcode_of_fetch hi] at hm ht
    obtain rfl : r = ⟨opcodeAt s, m⟩ := Option.some.inj (h.symm.trans hm)
    exact ⟨_, _, t, hs.trans ht⟩
  · simp [h] at hn

/-- On an opcode without a record the step is the consumer's policy. -/
theorem step_of_lookup_eq_none {s : State} (h : lookup (opcodeAt s) = none) :
    step s = undefinedOpcode (opcodeAt s) s := by
  rw [step, (fetch_eq_none_iff s).2 h]

section Policy

variable {s : State} (op : Byte)

theorem undefinedOpcode_of_halt (h : s.policy = .halt) : undefinedOpcode op s = .next (answeredAbsent op s) := by
  rw [undefinedOpcode, h]

theorem undefinedOpcode_of_fault (h : s.policy = .fault) : undefinedOpcode op s = .fault (.undefinedOpcode op) := by
  rw [undefinedOpcode, h]

theorem undefinedOpcode_of_unofficialAlias (h : s.policy = .unofficialAlias) :
    undefinedOpcode op s = .refused (.unofficialOpcode op) := by
  rw [undefinedOpcode, h]

end Policy

/-- A step that goes on is a transaction answered with the ROM's record, or, where there is none, the answer absent to a
consumer that halts. -/
theorem step_next_cases {s t : State} (h : step s = .next t) :
    (∃ r b1 b2 tr, lookup (opcodeAt s) = some r ∧ t = answered (opcodeAt s) r.mode b1 b2 tr s) ∨
    (lookup (opcodeAt s) = none ∧ s.policy = .halt ∧ t = answeredAbsent (opcodeAt s) s) := by
  cases hr : lookup (opcodeAt s) with
  | some r =>
    obtain ⟨b1, b2, tr, hs⟩ := step_of_lookup hr
    exact .inl ⟨r, b1, b2, tr, rfl, Host.Outcome.next.inj (h.symm.trans hs)⟩
  | none =>
    rw [step_of_lookup_eq_none hr] at h
    rcases undefinedOpcode_cases (opcodeAt s) s with ⟨hp, hu⟩ | ⟨-, hu⟩ | ⟨-, hu⟩ <;>
      rw [hu] at h <;> cases h
    exact .inr ⟨rfl, hp, rfl⟩

section Next

variable {s t : State} (h : step s = .next t)
include h

theorem opcodeIn_of_step : t.opcodeIn = opcodeAt s := by
  rcases step_next_cases h with ⟨r, b1, b2, tr, -, rfl⟩ | ⟨-, -, rfl⟩ <;> rfl

theorem received_of_step : t.received = lookup (opcodeAt s) := by
  rcases step_next_cases h with ⟨r, b1, b2, tr, hr, rfl⟩ | ⟨hn, -, rfl⟩
  · rw [answered_received, record_eq_of_lookup hr, hr]
  · rw [answeredAbsent_received, hn]

theorem mem_of_step : t.mem = s.mem := by
  rcases step_next_cases h with ⟨r, b1, b2, tr, -, rfl⟩ | ⟨-, -, rfl⟩ <;> rfl

theorem policy_of_step : t.policy = s.policy := by
  rcases step_next_cases h with ⟨r, b1, b2, tr, -, rfl⟩ | ⟨-, -, rfl⟩ <;> rfl

theorem ip_of_step {r : DecodeRecord} (hr : lookup (opcodeAt s) = some r) : t.ip = nextIP s.ip r := by
  rcases step_next_cases h with ⟨q, b1, b2, tr, hq, rfl⟩ | ⟨hn, -, -⟩
  · obtain rfl : q = r := Option.some.inj (hq.symm.trans hr)
    rw [answered_ip, record_eq_of_lookup hq]
  · simp [hr] at hn

/-- After a step the record held is exactly what `Lookup` answers for the byte on the port. -/
theorem received_eq_lookup_of_step : t.received = lookup t.opcodeIn := by
  rw [opcodeIn_of_step h, received_of_step h]

end Next

/-! #### The invariant -/

/-- Settles O50: a step leaves memory alone and receives what `Lookup` answers for the byte it presents. -/
theorem stepKeepsTheInvariant : Obligations.StepKeepsTheInvariant := by
  rintro s t ⟨hwf, -⟩ h
  exact ⟨mem_of_step h ▸ hwf, .inr (received_eq_lookup_of_step h)⟩

/-- Settles O49: nothing has been written or received at reset. -/
theorem resetMeetsTheInvariant : Obligations.ResetMeetsTheInvariant :=
  ⟨rfl, .inl rfl⟩

/-! #### Every instruction -/

/-- Settles O38: an instruction is a transaction answered with the ROM's record of its opcode, and has the operand bytes
that record asks for. -/
theorem everyInstructionDeliversTheRomRecord : Obligations.EveryInstructionDeliversTheRomRecord := by
  intro i s
  obtain ⟨m, t, hm, ht⟩ := exec_answered i s
  have hread : Ports.read (portsOf i.opcode) = some (some ⟨i.opcode, m⟩) := by rw [read_portsOf, hm]
  have hip : (nextIP s.ip ⟨i.opcode, m⟩).toNat = (s.ip.toNat + (encode i).length) % 65536 := by
    rw [nextIP_toNat, length_encode hm]
  exact ⟨_, _, hm, ht, rfl, rfl, hread, rfl, length_operandBytes hm, hip⟩

/-- Settles O39: a transaction answered with a record writes none of these. -/
theorem instructionFrame : Obligations.InstructionFrame := by
  intro i s t h
  obtain ⟨m, tr, -, ht⟩ := exec_answered i s
  obtain rfl := Host.Outcome.next.inj (ht.symm.trans h)
  exact ⟨rfl, rfl, rfl, rfl, rfl, rfl, fun _ => rfl⟩

/-! #### Fetching -/

/-- Where the bytes at the instruction pointer are those of an instruction, it is fetched. -/
theorem fetch_of_readBytes {i : Instr} {s : State} (h : s.mem.readBytes s.ip (encode i).length = encode i) :
    fetch s = some i := by
  obtain ⟨m, -, hm, -⟩ := exec_answered i s
  have hop : opcodeAt s = i.opcode := by
    rw [length_encode hm, readBytes_length_eq, encode_eq] at h
    exact List.head_eq_of_cons_eq h
  rw [length_encode hm] at h
  rw [fetch, hop, hm]
  simp only [h, decode_encode]

theorem step_of_fetch {i : Instr} {s : State} (h : fetch s = some i) : step s = exec i s := by
  rw [step, h]

/-- Settles O40: the bytes decode to the instruction, and the step runs what it fetches. -/
theorem stepRunsTheInstructionAtIp : Obligations.StepRunsTheInstructionAtIp :=
  fun _ _ h => ⟨fetch_of_readBytes h, step_of_fetch (fetch_of_readBytes h)⟩

theorem Memory.take_readBytes (m : Memory) (a : Addr) (n k : Nat) :
    (m.readBytes a (n + k)).take n = m.readBytes a n := by
  induction n generalizing a with
  | zero => rfl
  | succ n ih => rw [Nat.succ_add, Memory.readBytes, List.take_succ_cons, ih, Memory.readBytes]

/-- Reading after the load of three bytes. -/
theorem Memory.read_writeBytes_three {m : Memory} (h : m.wf = true) (a k : Addr) (v0 v1 v2 : Byte) :
    (m.writeBytes a [v0, v1, v2]).read k =
      if a + 1 + 1 = k then v2 else if a + 1 = k then v1 else if a = k then v0 else m.read k := by
  have h0 := Memory.wf_write h a v0
  have h1 := Memory.wf_write h0 (a + 1) v1
  simp only [Memory.writeBytes, Memory.read_write h1, Memory.read_write h0, Memory.read_write h]

/-- The three bytes of a load are read back: their addresses differ mod 65536. -/
theorem Memory.readBytes_writeBytes_three {m : Memory} (h : m.wf = true) (a : Addr) (v0 v1 v2 : Byte) :
    (m.writeBytes a [v0, v1, v2]).readBytes a 3 = [v0, v1, v2] := by
  have h01 : a + 1 ≠ a := by bv_omega
  have h02 : a + 1 + 1 ≠ a := by bv_omega
  have h12 : a + 1 + 1 ≠ a + 1 := by bv_omega
  simp only [Memory.readBytes, Memory.read_writeBytes_three h, if_neg h01, if_neg h02, if_neg h12, if_true]

/-- The bytes of the word that was loaded lie where the step fetches. -/
theorem readBytes_withFetchWord {s : State} (h : Memory.wf s.mem = true) (nbits w : Nat) :
    (s.withFetchWord nbits w).mem.readBytes s.ip 3 = tableBytes nbits w :=
  Memory.readBytes_writeBytes_three h s.ip _ _ _

theorem tableBytes_of_decodeTableWord {nbits w : Nat} {i : Instr} (h : decodeTableWord nbits w = some i) :
    ∃ rest, tableBytes nbits w = encode i ++ rest := by
  unfold decodeTableWord at h
  cases hd : decode (tableBytes nbits w) with
  | error e => simp [hd] at h
  | ok p =>
    obtain ⟨j, rest⟩ := p
    obtain rfl : j = i := by simpa [hd] using h
    exact ⟨rest, eq_encode_append_of_decode hd⟩

/-- Settles O41: the loaded word begins with the bytes of the instruction, and the load writes three bytes. -/
theorem fetchWordIsRunNext : Obligations.FetchWordIsRunNext := by
  intro s nbits w i hwf hw
  obtain ⟨rest, hrest⟩ := tableBytes_of_decodeTableWord hw
  have hlen : (encode i).length + rest.length = 3 := by rw [← List.length_append, ← hrest]; rfl
  have hbytes : (s.withFetchWord nbits w).mem.readBytes s.ip (encode i).length = encode i := by
    rw [← Memory.take_readBytes _ _ _ rest.length, hlen, readBytes_withFetchWord hwf, hrest, List.take_left]
  refine ⟨step_of_fetch (fetch_of_readBytes hbytes), rfl, fun a h0 h1 h2 => ?_⟩
  have h2' : s.ip + 1 + 1 ≠ a := by rw [BitVec.add_assoc]; exact h2.symm
  exact (Memory.read_writeBytes_three hwf s.ip a _ _ _).trans (by rw [if_neg h2', if_neg h1.symm, if_neg h0.symm])

/-! #### An absent opcode -/

/-- Settles O42: the ports of an absent key, and the policy `halt`. -/
theorem absentOpcodeIsAnOutcome : Obligations.AbsentOpcodeIsAnOutcome := by
  intro s h
  refine ⟨by rw [portsOf_of_lookup_eq_none h], by rw [read_portsOf, h], fun hp => ?_⟩
  exact (step_of_lookup_eq_none h).trans (undefinedOpcode_of_halt _ hp)

/-- Settles O43: each policy is one outcome; a consumer that halted stands on the same absent byte. -/
theorem undefinedOpcodePolicyDecidesTheStop : Obligations.UndefinedOpcodePolicyDecidesTheStop := by
  intro s h
  have hstep := step_of_lookup_eq_none h
  have hagain : lookup (opcodeAt (answeredAbsent (opcodeAt s) s)) = none := h
  exact ⟨fun hp => hstep.trans (undefinedOpcode_of_fault _ hp),
    fun hp => hstep.trans (undefinedOpcode_of_unofficialAlias _ hp),
    fun hp => ⟨_, hstep.trans (undefinedOpcode_of_halt _ hp), rfl, rfl,
      (step_of_lookup_eq_none hagain).trans (undefinedOpcode_of_halt _ hp)⟩⟩

/-- Settles O44: on a legal opcode the step is answered, and a stop is the policy's, which names the byte. -/
theorem stepStopsOnlyOnAbsentOpcodes : Obligations.StepStopsOnlyOnAbsentOpcodes := by
  intro s
  cases h : lookup (opcodeAt s) with
  | some r =>
    obtain ⟨b1, b2, t, hs⟩ := step_of_lookup h
    simp [hs]
  | none =>
    rw [step_of_lookup_eq_none h]
    rcases undefinedOpcode_cases (opcodeAt s) s with ⟨-, hu⟩ | ⟨-, hu⟩ | ⟨-, hu⟩ <;> simp [hu, eq_comm]

/-- Settles O45: what a step that goes on received, and where it stands. -/
theorem pointerNeverMovesByAGuess : Obligations.PointerNeverMovesByAGuess := by
  refine fun s t h => ⟨opcodeIn_of_step h, received_of_step h, fun r => ip_of_step h, fun hn => ?_⟩
  rcases step_next_cases h with ⟨r, b1, b2, tr, hr, -⟩ | ⟨-, -, rfl⟩
  · simp [hn] at hr
  · rfl

/-! #### What a step does not depend on -/

/-- No meaning looks at the input port or at the last transaction's result. -/
theorem exec_with_earlier (i : Instr) (s : State) (op : Byte) (r : Option DecodeRecord) (o : Operand) (t : Transfer) :
    exec i { s with opcodeIn := op, received := r, operand := o, transfer := t } = exec i s := by
  cases i <;> rfl

/-- Settles O46: the fetch looks at memory and `ip`, and every field named here is written anew. -/
theorem stepIgnoresEarlierInputs : Obligations.StepIgnoresEarlierInputs := by
  intro s op r o t
  have hfetch : fetch { s with opcodeIn := op, received := r, operand := o, transfer := t } = fetch s := rfl
  rw [step, step, hfetch]
  cases fetch s with
  | some i => exact exec_with_earlier i s op r o t
  | none => rfl

/-- An outcome with other values of A, S and P in its next state. -/
def withAccumulatorStackFlags (a sp : Byte) (p : Flags) : Result → Result
  | .next t => .next { t with a := a, sp := sp, p := p }
  | .fault f => .fault f
  | .refused r => .refused r

/-- A meaning neither reads nor writes A, S and P. -/
theorem exec_withAccumulatorStackFlags (i : Instr) (s : State) (a sp : Byte) (p : Flags) :
    exec i { s with a := a, sp := sp, p := p } = withAccumulatorStackFlags a sp p (exec i s) := by
  cases i <;> rfl

theorem undefinedOpcode_withAccumulatorStackFlags (op : Byte) (s : State) (a sp : Byte) (p : Flags) :
    undefinedOpcode op { s with a := a, sp := sp, p := p } =
      withAccumulatorStackFlags a sp p (undefinedOpcode op s) := by
  rcases undefinedOpcode_cases op s with ⟨hp, hu⟩ | ⟨hp, hu⟩ | ⟨hp, hu⟩ <;> rw [hu]
  · exact undefinedOpcode_of_halt op hp
  · exact undefinedOpcode_of_fault op hp
  · exact undefinedOpcode_of_unofficialAlias op hp

/-- Settles O47: the fetch looks at memory and `ip`, and neither a meaning nor the policy touches A, S or P. -/
theorem accumulatorStackPointerAndFlagsUntouched : Obligations.AccumulatorStackPointerAndFlagsUntouched := by
  intro s a sp p
  have hfetch : fetch { s with a := a, sp := sp, p := p } = fetch s := rfl
  have hstep : step { s with a := a, sp := sp, p := p } = withAccumulatorStackFlags a sp p (step s) := by
    rw [step, step, hfetch]
    cases fetch s with
    | some i => exact exec_withAccumulatorStackFlags i s a sp p
    | none => exact undefinedOpcode_withAccumulatorStackFlags (opcodeAt s) s a sp p
  rw [hstep]
  cases step s <;> rfl

/-- Settles O48: the byte presented and the record received are functions of the byte at `ip`. -/
theorem answerDependsOnTheByteAlone : Obligations.AnswerDependsOnTheByteAlone := by
  intro s s' t t' hop h h'
  have hports : t.opcodeIn = t'.opcodeIn := by rw [opcodeIn_of_step h, opcodeIn_of_step h', hop]
  exact ⟨by rw [received_of_step h, received_of_step h', hop], congrArg portsOf hports⟩

end Sys2Proof.Machine

end

/-! ### Proofs: the sweep (spec/95_test_vectors.md section 7) -/

section

namespace Sys2Proof.Machine

@[simp] theorem run_zero (s : State) : Sys2Proof.core.run 0 s = .next s := rfl

theorem run_succ_of_next {s t : State} (h : step s = .next t) (n : Nat) :
    Sys2Proof.core.run (n + 1) s = Sys2Proof.core.run n t := by
  have h' : Sys2Proof.core.step s = .next t := h
  simp only [Host.Core.run, h']

theorem run_succ_of_fault {s : State} {f : Fault} (h : step s = .fault f) (n : Nat) :
    Sys2Proof.core.run (n + 1) s = .fault f := by
  have h' : Sys2Proof.core.step s = .fault f := h
  simp only [Host.Core.run, h']

@[simp] theorem sweep_zero (m : Memory) (ip : Addr) : sweep m ip 0 = ⟨[], ip, .done⟩ := rfl

/-- A sweep that stands on an absent opcode stops. -/
theorem sweep_succ_of_absent {s : State} (h : lookup (opcodeAt s) = none) (n : Nat) :
    sweep s.mem s.ip (n + 1) = ⟨[], s.ip, .stoppedAbsent (opcodeAt s)⟩ := by
  have h' : lookup (s.mem.read s.ip) = none := h
  rw [sweep, h']
  rfl

/-- A sweep that stands on a legal opcode notes its record and goes on where the machine's step leads. -/
theorem sweep_succ_of_step {s t : State} {r : DecodeRecord} (hr : lookup (opcodeAt s) = some r) (h : step s = .next t)
    (n : Nat) :
    sweep s.mem s.ip (n + 1) =
      ⟨(s.ip, r) :: (sweep t.mem t.ip n).trace, (sweep t.mem t.ip n).ip, (sweep t.mem t.ip n).stop⟩ := by
  have hr' : lookup (s.mem.read s.ip) = some r := hr
  rw [sweep, hr', mem_of_step h, ip_of_step h hr]

/-- Where the sweep stands on a legal opcode, the step is answered with its record. -/
theorem exists_step_of_lookup {s : State} {r : DecodeRecord} (hr : lookup (opcodeAt s) = some r) :
    ∃ t, step s = .next t ∧ t.received = some r := by
  obtain ⟨b1, b2, tr, h⟩ := step_of_lookup hr
  exact ⟨_, h, (received_of_step h).trans hr⟩

/-- Where the sweep is done the machine has made as many steps. -/
theorem run_of_sweep_done {n : Nat} {s : State} (h : (sweep s.mem s.ip n).stop = .done) :
    ∃ t, Sys2Proof.core.run n s = .next t ∧ t.ip = (sweep s.mem s.ip n).ip ∧ t.mem = s.mem ∧
      (sweep s.mem s.ip n).trace.length = n := by
  induction n generalizing s with
  | zero => exact ⟨s, rfl, rfl, rfl, rfl⟩
  | succ n ih =>
    cases hr : lookup (opcodeAt s) with
    | none => simp [sweep_succ_of_absent hr] at h
    | some r =>
      obtain ⟨u, hu, -⟩ := exists_step_of_lookup hr
      rw [sweep_succ_of_step hr hu] at h ⊢
      obtain ⟨t, hrun, hip, hmem, hlen⟩ := ih h
      exact ⟨t, (run_succ_of_next hu n).trans hrun, hip, hmem.trans (mem_of_step hu), congrArg Nat.succ hlen⟩

/-- Where the sweep stops on an absent byte, the machine of the policy `fault` faults on it. -/
theorem run_of_sweep_stopped {n : Nat} {s : State} {op : Byte} (h : (sweep s.mem s.ip n).stop = .stoppedAbsent op)
    (hp : s.policy = .fault) : Sys2Proof.core.run n s = .fault (.undefinedOpcode op) := by
  induction n generalizing s with
  | zero => simp at h
  | succ n ih =>
    cases hr : lookup (opcodeAt s) with
    | none =>
      obtain rfl : opcodeAt s = op := by simpa [sweep_succ_of_absent hr] using h
      exact run_succ_of_fault ((step_of_lookup_eq_none hr).trans (undefinedOpcode_of_fault _ hp)) n
    | some r =>
      obtain ⟨u, hu, -⟩ := exists_step_of_lookup hr
      rw [sweep_succ_of_step hr hu] at h
      exact (run_succ_of_next hu n).trans (ih h ((policy_of_step hu).trans hp))

/-- An entry of the trace is the address after as many steps, and the record the next step receives. -/
theorem run_of_sweep_trace {n k : Nat} {s : State} {a : Addr} {r : DecodeRecord}
    (h : (sweep s.mem s.ip n).trace[k]? = some (a, r)) :
    ∃ t u, Sys2Proof.core.run k s = .next t ∧ t.ip = a ∧ step t = .next u ∧ u.received = some r := by
  induction n generalizing s k with
  | zero => simp at h
  | succ n ih =>
    cases hr : lookup (opcodeAt s) with
    | none => simp [sweep_succ_of_absent hr] at h
    | some q =>
      obtain ⟨u, hu, hrec⟩ := exists_step_of_lookup hr
      rw [sweep_succ_of_step hr hu] at h
      cases k with
      | zero =>
        obtain ⟨rfl, rfl⟩ : s.ip = a ∧ q = r := by simpa using h
        exact ⟨s, u, rfl, rfl, hu, hrec⟩
      | succ k =>
        obtain ⟨t, v, hrun, hrest⟩ := ih (by simpa using h)
        exact ⟨t, v, (run_succ_of_next hu k).trans hrun, hrest⟩

/-- Settles O51: each turn of the sweep is a step of the machine. -/
theorem sweepIsTheRunOfTheMachine : Obligations.SweepIsTheRunOfTheMachine :=
  fun _ _ => ⟨run_of_sweep_done, fun _ => run_of_sweep_stopped, fun _ _ _ => run_of_sweep_trace⟩

end Sys2Proof.Machine

end

/-! ### Proofs: several consumers (spec/20_memory.md section 6) -/

section

namespace Sys2Proof.Machine

/-- What a transaction keeps, any number of transactions keep. -/
theorem stepTimes_keeps {P : State → Prop} (hP : ∀ s, P s → P (stepOrStay s)) (n : Nat) {s : State} (h : P s) :
    P (stepTimes n s) := by
  induction n generalizing s with
  | zero => exact h
  | succ n ih => exact ih (hP s h)

/-- What a step keeps, a transaction keeps: a consumer that stops has not moved. -/
theorem stepOrStay_keeps {P : State → Prop} (hP : ∀ s t, P s → step s = .next t → P t) (s : State) (h : P s) :
    P (stepOrStay s) := by
  rcases stepOrStay_cases s with hs | hs
  · exact hP s _ h hs
  · rwa [hs]

theorem inv_stepTimes (n : Nat) {s : State} (h : Inv s) : Inv (stepTimes n s) :=
  stepTimes_keeps (stepOrStay_keeps stepKeepsTheInvariant) n h

theorem mem_stepTimes (n : Nat) (s : State) : (stepTimes n s).mem = s.mem :=
  stepTimes_keeps (P := fun t => t.mem = s.mem)
    (stepOrStay_keeps fun _ _ hmem h => (mem_of_step h).trans hmem) n rfl

/-- A consumer that stood on a legal opcode holds the answer to the byte on its port after any transactions. -/
theorem received_stepTimes_succ (n : Nat) {s : State} (h : lookup (opcodeAt s) ≠ none) :
    (stepTimes (n + 1) s).received = lookup (stepTimes (n + 1) s).opcodeIn := by
  obtain ⟨r, hr⟩ := Option.ne_none_iff_exists'.1 h
  obtain ⟨b1, b2, tr, hs⟩ := step_of_lookup hr
  have hfirst : (stepOrStay s).received = lookup (stepOrStay s).opcodeIn := by
    rw [stepOrStay, hs]
    exact received_eq_lookup_of_step hs
  exact stepTimes_keeps (P := fun t => t.received = lookup t.opcodeIn)
    (stepOrStay_keeps fun _ _ _ h => received_eq_lookup_of_step h) n hfirst

/-- A consumer makes as many transactions as the schedule names it, whatever the others do. -/
theorem getElem?_runSchedule (ks : List Nat) (cs : List State) (k : Nat) :
    (runSchedule ks cs)[k]? = (cs[k]?).map (stepTimes (ks.count k)) := by
  induction ks generalizing cs with
  | nil => exact Option.map_id'.symm
  | cons j ks ih =>
    rw [runSchedule_cons, ih, getElem?_stepConsumer]
    by_cases hj : j = k
    · rw [if_pos hj, hj, List.count_cons_self, Option.map_map]
      rfl
    · rw [if_neg hj, List.count_cons_of_ne hj]

/-- Every consumer of a run meets the invariant, if all did at its start. -/
theorem inv_runSchedule {ks : List Nat} {cs : List State} (h : ∀ c ∈ cs, Inv c) {k : Nat} {t : State}
    (ht : (runSchedule ks cs)[k]? = some t) : Inv t := by
  rw [getElem?_runSchedule] at ht
  obtain ⟨s, hs, rfl⟩ := Option.map_eq_some_iff.1 ht
  exact inv_stepTimes _ (h s (List.mem_of_getElem? hs))

/-- A record that is held is the ROM's for the byte on the port. -/
theorem lookup_of_received {t : State} {r : DecodeRecord} (h : Inv t) (hr : t.received = some r) :
    lookup t.opcodeIn = some r := by
  obtain ⟨-, hnone | hrom⟩ := h
  · simp [hr] at hnone
  · rw [← hrom, hr]

/-- Settles O52: consumer `k` makes its own transactions alone, which keep the invariant, and by the invariant two
records held for one byte are both the ROM's. -/
theorem consumersDoNotInteract : Obligations.ConsumersDoNotInteract := by
  intro schedule cs hinv k s t hs ht
  have htimes : t = stepTimes (schedule.count k) s := by
    rw [getElem?_runSchedule, hs] at ht
    exact (Option.some.inj ht).symm
  have htInv : Inv t := inv_runSchedule hinv ht
  refine ⟨htimes, htInv, fun hk hlegal => ?_, fun later j u r q hu hr hq hop => ?_⟩
  · obtain ⟨n, hn⟩ := Nat.exists_eq_succ_of_ne_zero (List.count_pos_iff.2 hk).ne'
    rw [htimes, hn]
    exact ⟨received_stepTimes_succ n hlegal, mem_stepTimes _ s⟩
  · have hlookup : lookup t.opcodeIn = some r := lookup_of_received htInv hr
    have hlookup' : lookup u.opcodeIn = some q := lookup_of_received (inv_runSchedule hinv hu) hq
    rw [← hop, hlookup] at hlookup'
    exact ⟨hlookup, (Option.some.inj hlookup').symm⟩

end Sys2Proof.Machine

end

/-! ### Proofs: the assembler (spec/30_encoding.md section 8) -/

section

namespace Sys2Proof

open Machine

/-! #### The displacement of a label (R78, R161) -/

@[simp] theorem lowByte_signExtend (d : Byte) : lowByte (d.signExtend 16) = d := by
  ext i hi
  have hi' : i < 16 := by omega
  rw [lowByte, BitVec.getElem_setWidth, BitVec.getLsbD_signExtend]
  simp [hi, hi']

/-- A label has the displacement whose branch goes to it. -/
theorem displacement_eq_some_iff (ip label : Addr) (d : Byte) :
    displacement ip label = some d ↔ branchTarget ip d = label := by
  have hdist : branchTarget ip d = label ↔ d.signExtend 16 = label - (ip + 2) := by
    rw [branchTarget, eq_comm (b := label - _), sub_eq_iff_eq_add', eq_comm]
  rw [hdist, displacement]
  constructor
  · intro h
    split at h
    · next hd => rw [← Option.some.inj h, hd]
    · simp at h
  · intro h
    simp only [← h, lowByte_signExtend, if_true]

/-- Settles O54: the displacements are the signed bytes, which are the integers from -128 to 127. -/
theorem displacementReachesExactlyTheLabelsInRange : Obligations.DisplacementReachesExactlyTheLabelsInRange := by
  intro ip label d
  refine ⟨displacement_eq_some_iff ip label d, ?_⟩
  simp only [displacement_eq_some_iff, branchTarget_eq_ofInt]
  constructor
  · rintro ⟨e, rfl⟩
    exact ⟨e.toInt, BitVec.le_toInt e, Int.le_of_lt_add_one (BitVec.toInt_lt (x := e)), rfl⟩
  · rintro ⟨k, hlo, hhi, rfl⟩
    have hk : (BitVec.ofInt 8 k).toInt = k := BitVec.toInt_ofInt_eq_self (by decide) hlo (Int.lt_add_one_of_le hhi)
    exact ⟨BitVec.ofInt 8 k, by rw [hk]⟩

/-! #### An instruction's assembler line -/

/-- The number of operand bytes an operand of a conventional mode is written with (R78). -/
def ConventionalMode.operandCount : ConventionalMode → Nat
  | .implied | .accumulator => 0
  | .immediate | .zeroPage | .zeroPageX | .zeroPageY | .indirectX | .indirectY | .relative => 1
  | .absolute | .absoluteX | .absoluteY | .indirect => 2

/-- Every row is found by its opcode, is the only one of its mnemonic and conventional mode, and has as many operand
bytes in that mode as its tag consumes. -/
theorem rows_of_romRows : ∀ row ∈ romRows,
    rowOf row.op = some row ∧ opcodeOf row.mnemonic row.conventional = some row.op ∧
    row.conventional.operandCount = operandLength row.mode := by decide +kernel

/-- Operand bytes of the right number have an operand of the conventional mode, which is stored as these bytes. -/
theorem exists_operandForm (ip : Addr) {c : ConventionalMode} {bs : List Byte} (h : bs.length = c.operandCount) :
    ∃ f, operandForm ip c bs = some f ∧ f.conventional = c ∧ f.bytes ip = some bs := by
  cases c with
  | implied | accumulator =>
    obtain rfl := List.length_eq_zero_iff.1 h
    exact ⟨_, rfl, rfl, rfl⟩
  | relative =>
    obtain ⟨b1, rfl⟩ := List.length_eq_one_iff.1 h
    refine ⟨_, rfl, rfl, ?_⟩
    simp [OperandForm.bytes, (displacement_eq_some_iff ip _ b1).2 rfl]
  | immediate | zeroPage | zeroPageX | zeroPageY | indirectX | indirectY =>
    obtain ⟨b1, rfl⟩ := List.length_eq_one_iff.1 h
    exact ⟨_, rfl, rfl, rfl⟩
  | absolute | absoluteX | absoluteY | indirect =>
    obtain ⟨b1, b2, rfl⟩ := List.length_eq_two.1 h
    exact ⟨_, rfl, rfl, by simp [OperandForm.bytes]⟩

/-- The row of an instruction's opcode: it leads back to the opcode, and its conventional mode has the instruction's
operand bytes. -/
theorem exists_rowOf_opcode (i : Instr) : ∃ row, rowOf i.opcode = some row ∧
    opcodeOf row.mnemonic row.conventional = some i.opcode ∧
    i.operandBytes.length = row.conventional.operandCount := by
  obtain ⟨m, -, hm, -⟩ := exec_answered i State.reset
  obtain ⟨row, hrow, hop, hmode⟩ := exists_romRow_of_lookup hm
  obtain ⟨hfind, hopcode, hcount⟩ := rows_of_romRows row hrow
  rw [hop] at hfind hopcode
  exact ⟨row, hfind, hopcode, by rw [length_operandBytes hm, hcount, hmode]⟩

/-- Settles O53: the row leads from the opcode to the line and back, and the operand is stored as the operand bytes. -/
theorem assemblingTheDisassemblyGivesTheInstruction : Obligations.AssemblingTheDisassemblyGivesTheInstruction := by
  intro ip i
  obtain ⟨row, hrow, hopcode, hlen⟩ := exists_rowOf_opcode i
  obtain ⟨f, hf, hconv, hbytes⟩ := exists_operandForm ip hlen
  refine ⟨row.mnemonic, f, by simp [disassemble, hrow, hf], ?_⟩
  have hdecode : decode (i.opcode :: i.operandBytes) = .ok (i, []) := by rw [← encode_eq, decode_encode]
  simp [assemble, hconv, hopcode, hbytes, hdecode]

end Sys2Proof

end
